-- ==== Sys2Proof/Word.lean ====
section
/-! DEFINITION. The words of CWE: the 32-bit word of the port and of the command format (30_encoding.md R90,
20_memory.md R82), and the 8-bit weight (10_state.md R40). Every architectural value is unsigned (00_scope.md R9). -/

namespace Sys2Proof

/-- One word of the register window and one command word (R70, R90). -/
abbrev Word := BitVec 32

/-- One weight of the table `WT` (R40). -/
abbrev Byte := BitVec 8

end Sys2Proof
end

