-- ==== Sys2Proof/Config.lean ====
section
/-! DEFINITION. What is fixed for the machine and does not change as it runs: the implementation parameters of
00_scope.md R7 with the values the spec gives them, the constants of 10_state.md R48, and the one free value of the
spec, `WT_RESET`. The parameters `LAT(op)` and `BASE` of R7 and R70 are not represented (92_eei_decisions.md, the table
of open parameters). -/

namespace Sys2Proof.Config

/-- `N_MAX` (R7): the largest legal `n` of COMB and WIDTHS. -/
@[simp] abbrev nMax : Nat := 32

/-- `ELEMS_MAX` (R7): the entries of `W`, the columns of `WT`, and the largest `elements`. -/
@[simp] abbrev elemsMax : Nat := 8

/-- `ELEMS_MIN_WIDTHS` (R7): the smallest `elements` that WIDTHS accepts. -/
@[simp] abbrev elemsMin : Nat := 2

/-- `DIGITS` (R7): the nibbles of the digit buffer. -/
@[simp] abbrev digits : Nat := 14

/-- The bound `2^VAL_BITS` below which `ACC` must stay (R7, R132). -/
@[simp] abbrev accLimit : Nat := 4294967296

/-- The window holds 1024 bytes, offsets `0x000` to `0x3FF` (R70). -/
@[simp] abbrev windowBytes : Nat := 1024

/-- The constant the register `ID` reads as (R37). -/
def idWord : Word := 0x43574501

/-- `WT_RESET` (R7, R191, 93 U9): the weight at flat index `8r + c` that draw number `draw` of the hard reset leaves in
`WT`. A FREE VALUE: it has no body, so nothing can be proved of it, and two draws need not agree. Log entry 2. -/
opaque wtReset (draw index : Nat) : Byte

end Sys2Proof.Config
end

