-- ==== Sys2Proof/Syntax.lean ====
section
/-! DEFINITION. The commands of CWE-1 (30_encoding.md R91) and the events that drive the machine: the host's accesses
(00_scope.md R11, 30_encoding.md R97), the engine's turn (10_state.md R20) and the level of the reset pin
(70_reset_and_hazards.md R190). -/

namespace Sys2Proof

/-- The eight commands (R91), one constructor per row of spec/opcode_table.json. A command word carries no operand
(R92), so no constructor has an argument: every operand is read from the operand registers. -/
inductive Instr where
  /-- `RES0 <- C(N, R)` (R113). -/
  | comb
  /-- `W <-` the width vector of rank `VAL` (R116 to R120). -/
  | widths
  /-- `ACC <- 0` (R131). -/
  | ckclr
  /-- `ACC <- ACC +` one row's weighted sum (R132). -/
  | ckmac
  /-- `RES0 <- ACC mod M` (R133). -/
  | ckred
  /-- The variant's final step on `ACC mod M` (R134 to R137). -/
  | ckfin
  /-- The check digit and the weighted sum of the digit buffer (R153). -/
  | gtincd
  /-- The validity of the digit buffer and the reason (R154). -/
  | gtinval
  deriving DecidableEq, Repr

/-- One atomic step of an execution, as it lies in the state's `agenda` (R20, R83; log entry 1). -/
inductive Event where
  /-- `MemRead(offset, bytes)`: a host read (R11, R72). Only `bytes = 4` can be expressed at the port (R82). -/
  | read (offset bytes : Nat)
  /-- `MemWrite(offset, bytes, data)`: a host write (R11, R73). Only `bytes = 4` can be expressed at the port (R82). -/
  | write (offset bytes : Nat) (data : Word)
  /-- The engine's turn: the completion of the pending command, if one is pending (R165). -/
  | complete
  /-- The pin `rst_n` is driven to `level`; low is the hard reset (R89, R190). -/
  | rstPin (level : Bool)
  deriving DecidableEq, Repr

/-- `RD a` (R11): a 32-bit read at offset `a`. -/
abbrev Event.rd (a : Nat) : Event := .read a 4

/-- `WR a, v` (R11): a 32-bit write of `v` at offset `a`. -/
abbrev Event.wr (a : Nat) (v : Word) : Event := .write a 4 v

end Sys2Proof
end

