-- ==== Sys2Proof/WellFormed.lean ====
section
/-! DEFINITION. Which terms of the syntax stand for something the hardware can be given. A command has no operand
(30_encoding.md R92), so every command is well formed; an access must be one 32-bit word of the window (20_memory.md
R82). -/

namespace Sys2Proof

/-- A command word carries no operand and no immediate (R92): there is no field that could be out of range. -/
def Instr.wellFormed : Instr → Bool
  | .comb | .widths | .ckclr | .ckmac | .ckred | .ckfin | .gtincd | .gtinval => true

/-- The access can be expressed at the port (R82): one whole word, at an offset that is a multiple of 4 and lies in
`0x000` to `0x3FC`. -/
def expressible (offset bytes : Nat) : Bool :=
  bytes == 4 && offset % 4 == 0 && decide (offset < Config.windowBytes)

/-- An event is well formed when it is no access, or an access that the port can express. -/
def Event.wellFormed : Event → Bool
  | .read offset bytes => expressible offset bytes
  | .write offset bytes _ => expressible offset bytes
  | .complete => true
  | .rstPin _ => true

end Sys2Proof
end

