-- ==== Sys2Proof/Decode.lean ====
section
/-! DEFINITION. The decoder and the encoder of the one command format `C` (30_encoding.md R90, R91, R93, R94, R100).
The decoder is total over all `2^32` words and depends on the word alone. A command word reaches the block as one whole
32-bit word written to `CMD`, so no byte order enters (20_memory.md R81, R86). -/

namespace Sys2Proof

/-- Why a word is no command: the names under which the decoder rejects. -/
inductive IllegalWord where
  /-- `word[31:8] != 0` (R93). -/
  | upperBits
  /-- `word[31:8] = 0` and `word[7:0]` is no opcode (R94). -/
  | reservedOpcode
  deriving DecidableEq, Repr

/-- The field `ZERO` of format `C`, `word[31:8]` (R90). -/
def zeroField (w : Word) : BitVec 24 := w.extractLsb' 8 24

/-- The field `OP` of format `C`, `word[7:0]` (R90). -/
def opField (w : Word) : Byte := w.extractLsb' 0 8

/-- The opcode map of R91. -/
def opcodeInstr (op : Byte) : Option Instr :=
  if op = 0x01 then some .comb
  else if op = 0x02 then some .widths
  else if op = 0x10 then some .ckclr
  else if op = 0x11 then some .ckmac
  else if op = 0x12 then some .ckred
  else if op = 0x13 then some .ckfin
  else if op = 0x20 then some .gtincd
  else if op = 0x21 then some .gtinval
  else none

/-- `decode(word)` of R100: a command, or the reason why the word is illegal. -/
def decode (w : Word) : Except IllegalWord Instr :=
  if zeroField w ≠ 0 then .error .upperBits
  else
    match opcodeInstr (opField w) with
    | some i => .ok i
    | none => .error .reservedOpcode

/-- The opcode of a command (R91). -/
def Instr.opcode : Instr → Byte
  | .comb => 0x01
  | .widths => 0x02
  | .ckclr => 0x10
  | .ckmac => 0x11
  | .ckred => 0x12
  | .ckfin => 0x13
  | .gtincd => 0x20
  | .gtinval => 0x21

/-- The command word of a command: the field `ZERO` at 0 above the opcode (R90). -/
def encode (i : Instr) : Word := (0 : BitVec 24) ++ i.opcode

/-- What the decoder reads from an instruction whose `nbits` bits are `w`: the block has one length of 32 bits (R90),
so the bits above `nbits` are 0. -/
def decodeTableWord (nbits w : Nat) : Option Instr :=
  match decode (BitVec.ofNat 32 (w % 2 ^ nbits)) with
  | .ok i => some i
  | .error _ => none

end Sys2Proof
end

