-- ==== Sys2Proof/Machine/State.lean ====
section
/-! DEFINITION. The state of CWE: every register of 10_state.md R47, field by field, and the four fields of the model's
own (`rstN`, `wtDraw`, `agenda`, `lastRead`; log entries 1 to 4). Beside it the reasons a step can stop, the error
codes, and the machine right after a hard reset (70_reset_and_hazards.md R191). -/

namespace Sys2Proof.Machine

/-- The error causes `E_x` a command can `raise` (60_exceptions.md R170). An error is no stop of the machine: it ends in
an error completion, which is a next state (R167). -/
inductive ErrorCode where
  /-- Code 1: an illegal command word. -/
  | eOpcode
  /-- Code 2: an operand register outside the command's legal range. -/
  | eOperand
  /-- Code 3: `VAL` at or above the number of vectors. -/
  | eRange
  /-- Code 4: a non-digit among the digits in use. -/
  | eDigit
  /-- Code 5: CKMAC while the weight table is not locked. -/
  | eWtlock
  /-- Code 6: the accumulator would reach `2^32`. -/
  | eAccovf
  /-- Code 7: the self-check of WIDTHS failed. -/
  | eInvariant
  deriving DecidableEq, Repr

/-- The faults of the machine: none. No step of the block stops it: a failing command ends in an error completion
(R167) and the fatal state still answers every access (R174). No one raises a constructor of this type. -/
inductive Fault where
  deriving DecidableEq, Repr

/-- The steps without a meaning. -/
inductive Refusal where
  /-- An instruction of the opcode table without a meaning yet. Raised by no arm of this model. Safe. -/
  | notModelled (mnemonic : String)
  /-- The host asked for an access of other than 32 bits (20_memory.md R82, 93 U15). Raised by `accessRefusal`.
  Safe: the block never sees such an access. -/
  | narrowAccess
  /-- The host asked for an access at an offset that is not a multiple of 4 (R82, U15). Raised by `accessRefusal`.
  Safe: the block never sees such an access. -/
  | misalignedAccess
  /-- The host asked for an access outside `0x000` to `0x3FC` (R82, U15). Raised by `accessRefusal`.
  Safe: the block never sees such an access. -/
  | outsideWindow
  deriving DecidableEq, Repr

/-- The state. Registers carry the width of their field: bits outside it are reserved, read 0 and drop what is written
(R42). -/
structure State where
  /-- `CTRL.IE`, bit 0 (R38): interrupt enable. -/
  ie : Bool
  /-- `CTRL.WTLOCK`, bit 1 (R38, R41): the weight table is locked. -/
  wtlock : Bool
  /-- `STATUS.BUSY`, bit 0 (R39): a command is pending (R45). -/
  busy : Bool
  /-- `STATUS.DONE`, bit 1 (R39): a command has completed and is not acknowledged. -/
  done : Bool
  /-- `STATUS.ERR`, bit 2 (R39): that completion was an error completion. -/
  err : Bool
  /-- `STATUS.FATAL`, bit 3 (R39, R174). -/
  fatal : Bool
  /-- `STATUS.WRIGN`, bit 4 (R39): a host write was discarded. -/
  wrign : Bool
  /-- `STATUS.ECODE`, bits 11:8 (R39, R170). -/
  ecode : BitVec 4
  /-- `CMD` (R44): the last accepted command word. -/
  cmd : Word
  /-- `VAL` (R22). -/
  val : Word
  /-- `N` (R23). -/
  n : BitVec 6
  /-- `R` (R24). -/
  r : BitVec 6
  /-- `ELEMS` (R25). -/
  elems : BitVec 4
  /-- `MAXW` (R26). -/
  maxw : BitVec 6
  /-- `FLAGS.XNN` (R27): leave out the vectors without a narrow element. -/
  xnn : Bool
  /-- `ROW` (R28). -/
  row : BitVec 5
  /-- `VAR` (R29). -/
  var : BitVec 2
  /-- `SC` (R30). -/
  sc : BitVec 8
  /-- `DIG0` (R31): nibbles 0 to 7 of the digit buffer. -/
  dig0 : Word
  /-- `DIG1` (R31): nibbles 8 to 13 of the digit buffer. -/
  dig1 : BitVec 24
  /-- `LEN` (R32). -/
  len : BitVec 4
  /-- `W[0..7]` (R33): the width vector. -/
  w : Vector (BitVec 6) 8
  /-- `ACC` (R34): the running weighted sum. -/
  acc : Word
  /-- `RES0` (R35). -/
  res0 : Word
  /-- `RES1` (R36). -/
  res1 : Word
  /-- `WT[r][c]` (R40): the weight table, row by row. -/
  wt : Vector (Vector Byte 8) 32
  /-- The model's own: the level of the input pin `rst_n` (R89, R191; log entry 3). -/
  rstN : Bool
  /-- The model's own: the number of the last draw of `WT_RESET` (R191, U9; log entry 2). -/
  wtDraw : Nat
  /-- The model's own: the atomic steps still to come, in the order in which they take effect (R83; log entry 1). -/
  agenda : List Event
  /-- The model's own: the data that the last host read returned (R72, R89; log entry 4). -/
  lastRead : Word
  deriving DecidableEq, Repr

/-- The contents of `WT` that draw `draw` of the hard reset leaves: any value, row by row (R191). -/
def drawnTable (draw : Nat) : Vector (Vector Byte 8) 32 :=
  Vector.ofFn fun r => Vector.ofFn fun c => Config.wtReset draw (8 * r.val + c.val)

/-- The machine right after a hard reset (R191, R47): every register 0, `WT` unspecified (the free value, draw 0), the
pin `rst_n` high again, no access pending. -/
def State.reset : State where
  ie := false
  wtlock := false
  busy := false
  done := false
  err := false
  fatal := false
  wrign := false
  ecode := 0
  cmd := 0
  val := 0
  n := 0
  r := 0
  elems := 0
  maxw := 0
  xnn := false
  row := 0
  var := 0
  sc := 0
  dig0 := 0
  dig1 := 0
  len := 0
  w := Vector.replicate 8 0
  acc := 0
  res0 := 0
  res1 := 0
  wt := drawnTable 0
  rstN := true
  wtDraw := 0
  agenda := []
  lastRead := 0

end Sys2Proof.Machine
end

