-- ==== Sys2Proof/Machine/Flags.lean ====
section
/-! DEFINITION. The status and control flags as the host and the interrupt line see them. The block has no arithmetic
condition codes (10_state.md R46): its flags are the fields of `STATUS` and `CTRL`. -/

namespace Sys2Proof.Machine

/-- `code(E_x)` (60_exceptions.md R170). -/
def ErrorCode.code : ErrorCode → BitVec 4
  | .eOpcode => 1
  | .eOperand => 2
  | .eRange => 3
  | .eDigit => 4
  | .eWtlock => 5
  | .eAccovf => 6
  | .eInvariant => 7

/-- A flag as the one bit the register word shows. -/
def flagBit (b : Bool) : BitVec 1 := if b then 1 else 0

/-- The word `CTRL` reads as (R38): `IE` at bit 0, `WTLOCK` at bit 1, `SRST` and the reserved bits 0. -/
def State.ctrlWord (s : State) : Word :=
  (0 : BitVec 30) ++ (flagBit s.wtlock ++ flagBit s.ie)

/-- The word `STATUS` reads as (R39): `ECODE` at bits 11:8, then `WRIGN`, `FATAL`, `ERR`, `DONE`, `BUSY` from bit 4
down, reserved bits 0. -/
def State.statusWord (s : State) : Word :=
  (0 : BitVec 20) ++ (s.ecode ++ ((0 : BitVec 3) ++
    (flagBit s.wrign ++ (flagBit s.fatal ++ (flagBit s.err ++ (flagBit s.done ++ flagBit s.busy))))))

/-- The interrupt output: `irq = CTRL.IE and STATUS.DONE`, at every moment (R175). -/
def State.irq (s : State) : Bool := s.ie && s.done

end Sys2Proof.Machine
end

