-- ==== Sys2Proof/Machine/Ops.lean ====
section
/-! DEFINITION. The named operations over the state that the meanings and the port share: how a command is accepted,
how it completes (60_exceptions.md R165 to R167: the error completion is this block's exception entry, R177), how the
host acknowledges it (R178: the return), the discarded write (20_memory.md R74, R77, R78), and the two resets
(70_reset_and_hazards.md R190 to R193). -/

namespace Sys2Proof.Machine

/-- A host write that is discarded because of `BUSY`, `WTLOCK` or `FATAL`: only `STATUS.WRIGN` records it (R39). -/
def State.discardWrite (s : State) : State := { s with wrign := true }

/-- Acceptance of a command word by an idle block (R77, R165 (1)). -/
def State.acceptCommand (s : State) (word : Word) : State :=
  { s with cmd := word, busy := true, done := false, err := false, ecode := 0 }

/-- Successful completion, after the command's writes (R166): `ERR` and `ECODE` stay as the acceptance left them. -/
def State.successCompletion (s : State) : State := { s with busy := false, done := true }

/-- Error completion, the one operation that takes an error (R167, R177): the code is recorded, `E_INVARIANT` also makes
the block fatal, and nothing else changes; `CMD` still holds the failing word (R172). -/
def State.errorCompletion (s : State) (e : ErrorCode) : State :=
  { s with
    busy := false
    done := true
    err := true
    ecode := e.code
    fatal := s.fatal || e == .eInvariant }

/-- The acknowledgement of a completion, this block's return from an error (R76, R178): `DONE`, `ERR` and `ECODE` clear
together. -/
def State.acknowledge (s : State) : State := { s with done := false, err := false, ecode := 0 }

/-- The completion of a command whose pseudocode ran on `s` (R166, R167): `.ok t` when it ran to its end, `t` being `s`
with the command's writes; `.error e` when it raised `e`, and then none of its writes takes effect. -/
def complete (s : State) (outcome : Except ErrorCode State) : Host.Outcome State Fault Refusal :=
  match outcome with
  | .ok t => .next t.successCompletion
  | .error e => .next (s.errorCompletion e)

/-- The soft reset (R192): every register takes its hard-reset value, `WT` is kept. A pending command is abandoned
(R193). The model's own fields are no registers and stay. -/
def State.softReset (s : State) : State :=
  { State.reset with
    wt := s.wt
    rstN := s.rstN
    wtDraw := s.wtDraw
    agenda := s.agenda
    lastRead := s.lastRead }

/-- The hard reset (R191): as the soft reset, but `WT` takes any value, by a new draw. -/
def State.hardReset (s : State) : State :=
  { s.softReset with wt := drawnTable (s.wtDraw + 1), wtDraw := s.wtDraw + 1 }

/-- The pin `rst_n` is driven to `level` (R190, R191). Low, and the change from low to high, leave the state of a hard
reset; high while it is high is no event. -/
def State.driveReset (s : State) (level : Bool) : State :=
  if level && s.rstN then s else { s.hardReset with rstN := level }

/-- The widths WIDTHS writes: entry `i` of the vector, and 0 from its end up (R120). -/
def State.setWidths (s : State) (out : List Nat) : State :=
  { s with w := Vector.ofFn fun i => BitVec.ofNat 6 (out.getD i.val 0) }

/-- The two result registers (R35, R36). -/
def State.setResults (s : State) (x y : Nat) : State :=
  { s with res0 := BitVec.ofNat 32 x, res1 := BitVec.ofNat 32 y }

/-- The accumulator (R34). -/
def State.setAcc (s : State) (x : Nat) : State := { s with acc := BitVec.ofNat 32 x }

end Sys2Proof.Machine
end

