-- ==== Sys2Proof/Machine/Operands.lean ====
section
/-! DEFINITION. How a command reads its operands: every one from the operand registers, as an unsigned integer
(30_encoding.md R92), and the sums of 00_scope.md R8. -/

namespace Sys2Proof.Machine

/-- `sum(i in 0 .. count-1) f(i)` (R8). -/
def sumBelow (count : Nat) (f : Nat → Nat) : Nat := ((List.range count).map f).sum

/-- `sum(j in lo .. hi) f(j)`, 0 when `hi < lo` (R8). -/
def sumFromTo (lo hi : Nat) (f : Nat → Nat) : Nat := ((List.range' lo (hi + 1 - lo)).map f).sum

/-- `W[i]` as an operand (R33). The index is below 8 wherever a rule uses it (R87). -/
def State.width (s : State) (i : Nat) : Nat := (s.w[i]?.getD 0).toNat

/-- `WT[r][c]` as an operand (R40). The indices are below 32 and 8 wherever a rule uses them (R87). -/
def State.weight (s : State) (r c : Nat) : Nat :=
  match s.wt[r]? with
  | some cols => (cols[c]?.getD 0).toNat
  | none => 0

/-- `DIG(j) = {DIG1, DIG0}[4j+3 : 4j]` (R10, R31). -/
def State.digit (s : State) (j : Nat) : Nat := ((s.dig1 ++ s.dig0).extractLsb' (4 * j) 4).toNat

/-- Some `DIG(j) > 9` with `0 <= j < LEN` (R153, R154). -/
def State.hasNonDigit (s : State) : Bool :=
  (List.range s.len.toNat).any fun j => decide (9 < s.digit j)

/-- The modulus `M` that `VAR` selects (R29, R133): 79, 89 or 211; `VAR = 3` selects none. -/
def modulus (var : BitVec 2) : Option Nat :=
  match var.toNat with
  | 0 => some 79
  | 1 => some 89
  | 2 => some 211
  | _ => none

end Sys2Proof.Machine
end

