-- ==== Sys2Proof/Machine/Checksum.lean ====
section
/-! DEFINITION. The checksum unit: CKCLR, CKMAC, CKRED, CKFIN (41_checksum.md R130 to R140). -/

namespace Sys2Proof.Machine

/-- CKCLR up to its completion (R131). -/
def ckclrBody (s : State) : Except ErrorCode State := .ok (s.setAcc 0)

/-- CKCLR (R131): it always completes successfully. -/
def execCkclr (s : State) : Host.Outcome State Fault Refusal := complete s (ckclrBody s)

/-- The sum `s` of CKMAC (R132): entry `i` of `W` meets column `i` of row `ROW`, for `i < ELEMS`. -/
def State.weightedSum (s : State) : Nat :=
  sumBelow s.elems.toNat fun i => s.width i * s.weight s.row.toNat i

/-- CKMAC up to its completion (R132). -/
def ckmacBody (s : State) : Except ErrorCode State :=
  if s.wtlock = false then .error .eWtlock
  else if s.elems.toNat < 1 ∨ Config.elemsMax < s.elems.toNat then .error .eOperand
  else if Config.accLimit ≤ s.acc.toNat + s.weightedSum then .error .eAccovf
  else .ok (s.setAcc (s.acc.toNat + s.weightedSum))

/-- CKMAC (R132). -/
def execCkmac (s : State) : Host.Outcome State Fault Refusal := complete s (ckmacBody s)

/-- CKRED up to its completion (R133). -/
def ckredBody (s : State) : Except ErrorCode State :=
  match modulus s.var with
  | none => .error .eOperand
  | some m => .ok (s.setResults (s.acc.toNat % m) 0)

/-- CKRED (R133). -/
def execCkred (s : State) : Host.Outcome State Fault Refusal := complete s (ckredBody s)

/-- The adjustments of CKFIN for modulus 79 (R135): thresholds, the second tested on the value after the first. -/
def skipResidues (q : Nat) : Nat :=
  let q' := if 8 ≤ q then q + 1 else q
  if 72 ≤ q' then q' + 1 else q'

/-- The final step for modulus 79 (R135): the left and right finder indices. -/
def finOmni (s : State) (q : Nat) : State := s.setResults (skipResidues q / 9) (skipResidues q % 9)

/-- The final step for modulus 89 (R136): the residue as it is. -/
def finLimited (s : State) (q : Nat) : State := s.setResults q 0

/-- The final step for modulus 211 (R137): the value of the check sign, and the residue. -/
def finExpanded (s : State) (q : Nat) : State := s.setResults (211 * (s.sc.toNat - 3) + q) q

/-- CKFIN up to its completion (R134 to R137). `SC` is looked at for `VAR = 2` only. -/
def ckfinBody (s : State) : Except ErrorCode State :=
  match s.var.toNat with
  | 0 => .ok (finOmni s (s.acc.toNat % 79))
  | 1 => .ok (finLimited s (s.acc.toNat % 89))
  | 2 => if s.sc.toNat < 3 then .error .eOperand else .ok (finExpanded s (s.acc.toNat % 211))
  | _ => .error .eOperand

/-- CKFIN (R134 to R137). -/
def execCkfin (s : State) : Host.Outcome State Fault Refusal := complete s (ckfinBody s)

end Sys2Proof.Machine
end

