-- ==== Sys2Proof/Machine/Combinatorics.lean ====
section
/-! DEFINITION. The combinatorics unit: COMB and WIDTHS (40_combinatorics.md R111 to R124). All arithmetic is over the
integers (00_scope.md R8, 40_combinatorics.md R123). The inverse `Rank`, the enumerated set `V` and its size `T` are no
commands; they are given for statements about WIDTHS (R115, R121, R122). -/

namespace Sys2Proof.Machine

/-- `C(a, b) = a! / (b! (a-b)!)` (R8, R111). The rules never evaluate it outside `0 <= b <= a`; it is 0 there. -/
def binomial (a b : Nat) : Nat :=
  if b ≤ a then a.factorial / (b.factorial * (a - b).factorial) else 0

/-- COMB up to its completion (R113). -/
def combBody (s : State) : Except ErrorCode State :=
  if Config.nMax < s.n.toNat then .error .eOperand
  else if s.n.toNat < s.r.toNat then .error .eOperand
  else .ok (s.setResults (binomial s.n.toNat s.r.toNat) 0)

/-- COMB (R113). -/
def execComb (s : State) : Host.Outcome State Fault Refusal := complete s (combBody s)

/-- The term `all` of `SubCount` (R118): the ways to split the `rem - w` modules left over into `k - 1` positive
parts. -/
def allCount (rem k w : Nat) : Nat := binomial (rem - w - 1) (k - 2)

/-- The term `nonarrow` of `SubCount` (R118): of those, the ways in which every part is at least 2; taken off only while
no position so far, this one included, has width 1. -/
def nonarrowCount (rem k w : Nat) (narrow x : Bool) : Nat :=
  if x = true ∧ narrow = false ∧ w ≠ 1 ∧ k - 1 ≤ rem - w - (k - 1) then binomial (rem - w - k) (k - 2) else 0

/-- The term `over` of `SubCount` (R118): the ways in which one of the `k - 1` parts exceeds `m`. -/
def overCount (rem k w m : Nat) : Nat :=
  if 3 ≤ k then
    (k - 1) * sumFromTo (m + 1) (rem - w - (k - 2)) fun j => binomial (rem - w - j - 1) (k - 3)
  else if m < rem - w then 1
  else 0

/-- `SubCount(rem, k, w, narrow, m, x)` (R118): the number of ways to finish the vector when the current position takes
width `w`. Defined for `k >= 2` and `1 <= w <= rem - (k-1)`. -/
def subCount (rem k w : Nat) (narrow : Bool) (m : Nat) (x : Bool) : Int :=
  (allCount rem k w : Int) - nonarrowCount rem k w narrow x - overCount rem k w m

/-- The inner loop of R117 at one position: the candidates `w, w+1, ...`, of which `left` are at most
`min (rem - (k-1)) m`; each is passed over while `val` still holds its count. With none left the guard
`w > rem - (k-1) or w > MAXW` holds and `E_RANGE` is raised. Answers the width taken and the `val` left. -/
def findWidth (rem k : Nat) (narrow : Bool) (m : Nat) (x : Bool) :
    (left w : Nat) → (val : Int) → Except ErrorCode (Nat × Int)
  | 0, _, _ => .error .eRange
  | left + 1, w, val =>
    if val < subCount rem k w narrow m x then .ok (w, val)
    else findWidth rem k narrow m x left (w + 1) (val - subCount rem k w narrow m x)

/-- The outer loop of R117, by the number `k` of elements not yet fixed: at `k >= 2` a candidate loop, at `k = 1` the
last element, which takes what is left. -/
def placeWidths (m : Nat) (x : Bool) :
    (k rem : Nat) → (narrow : Bool) → (val : Int) → Except ErrorCode (List Nat)
  | 0, _, _, _ => .ok []
  | 1, rem, _, _ => .ok [rem]
  | k + 2, rem, narrow, val =>
    match findWidth rem (k + 2) narrow m x (min (rem - (k + 1)) m) 1 val with
    | .error e => .error e
    | .ok (w, val') =>
      match placeWidths m x (k + 1) (rem - w) (narrow || w == 1) val' with
      | .error e => .error e
      | .ok rest => .ok (w :: rest)

/-- The five operand checks of R116, in their order; all raise `E_OPERAND`. -/
def widthsOperandsBad (n k m : Nat) (x : Bool) : Bool :=
  decide (k < Config.elemsMin ∨ Config.elemsMax < k)
    || decide (n < k ∨ Config.nMax < n)
    || decide (m < 1)
    || decide (2 * m + k ≤ n)
    || (x && decide (m + 2 * k - 1 ≤ n))

/-- The self-check of R120 on a finished vector: its sum, the bounds of its elements, and a narrow element where `XNN`
asks for one. -/
def selfCheck (n m : Nat) (x : Bool) (out : List Nat) : Bool :=
  out.sum == n && out.all (fun v => decide (1 ≤ v ∧ v ≤ m)) && (!x || out.contains 1)

/-- WIDTHS up to its completion (R116, R117, R120). -/
def widthsBody (s : State) : Except ErrorCode State :=
  if widthsOperandsBad s.n.toNat s.elems.toNat s.maxw.toNat s.xnn then .error .eOperand
  else
    match placeWidths s.maxw.toNat s.xnn s.elems.toNat s.n.toNat false (s.val.toNat : Int) with
    | .error e => .error e
    | .ok out =>
      if selfCheck s.n.toNat s.maxw.toNat s.xnn out then .ok (s.setWidths out) else .error .eInvariant

/-- WIDTHS (R116 to R120). -/
def execWidths (s : State) : Host.Outcome State Fault Refusal := complete s (widthsBody s)

/-- Membership in the set `V(n, k, m, x)` of vectors that WIDTHS enumerates (R115). -/
abbrev inV (n k m : Nat) (x : Bool) (out : List Nat) : Prop :=
  out.length = k ∧ out.sum = n ∧ (∀ v ∈ out, 1 ≤ v ∧ v ≤ m) ∧ (x = true → 1 ∈ out)

/-- The closed form of `T(n, k, m, x)` in the accepted region (R122 (4)). -/
def domainSize (n k m : Nat) (x : Bool) : Int :=
  (binomial (n - 1) (k - 1) : Int)
    - k * sumFromTo (m + 1) (n - k + 1) (fun j => binomial (n - j - 1) (k - 2))
    - (if x = true ∧ 2 * k ≤ n then binomial (n - k - 1) (k - 1) else 0)

/-- The counts passed over at one position to reach width `w`: `sum(c in 1 .. w-1) SubCount(rem, k, c, ...)` (R121). -/
def countBelow (rem k : Nat) (narrow : Bool) (m : Nat) (x : Bool) (w : Nat) : Int :=
  ((List.range' 1 (w - 1)).map fun c => subCount rem k c narrow m x).sum

/-- `Rank` of a vector from a position on, `rem` modules being left there (R121). -/
def rankFrom (m : Nat) (x : Bool) : (rem : Nat) → (narrow : Bool) → List Nat → Int
  | _, _, [] => 0
  | _, _, [_] => 0
  | rem, narrow, a :: b :: rest =>
    countBelow rem (rest.length + 2) narrow m x a + rankFrom m x (rem - a) (narrow || a == 1) (b :: rest)

/-- `Rank(w)` for a vector of sum `n` (R121): the inverse of WIDTHS, no command of the block. -/
def rank (n m : Nat) (x : Bool) (out : List Nat) : Int := rankFrom m x n false out

end Sys2Proof.Machine
end

