-- ==== Sys2Proof/Machine/Gtin.lean ====
section
/-! DEFINITION. The GTIN unit: GTINCD and GTINVAL (42_gtin.md R150 to R156). -/

namespace Sys2Proof.Machine

/-- The weighted sum `S(p)` of thirteen payload digits, `p 0` the rightmost: weight 3 at even `j`, 1 at odd (R151). -/
def gtinSum (p : Nat → Nat) : Nat := sumBelow 13 fun j => p j * (if j % 2 = 0 then 3 else 1)

/-- The check digit `CD(p)` (R152). -/
def checkDigit (p : Nat → Nat) : Nat := (10 - gtinSum p % 10) % 10

/-- The payload of GTINCD: the digits in use, left-padded with zeros to thirteen (R153). -/
def State.paddedPayload (s : State) (j : Nat) : Nat := if j < s.len.toNat then s.digit j else 0

/-- The payload of a 14-digit value: the thirteen digits left of the check digit (R154). -/
def State.fullPayload (s : State) (j : Nat) : Nat := s.digit (j + 1)

/-- GTINCD up to its completion (R153). -/
def gtincdBody (s : State) : Except ErrorCode State :=
  if s.len.toNat < 1 ∨ 13 < s.len.toNat then .error .eOperand
  else if s.hasNonDigit then .error .eDigit
  else .ok (s.setResults (checkDigit s.paddedPayload) (gtinSum s.paddedPayload))

/-- GTINCD (R153). -/
def execGtincd (s : State) : Host.Outcome State Fault Refusal := complete s (gtincdBody s)

/-- The reason code of GTINVAL (R154): 0 valid, 1 wrong length, 2 non-digit character, 3 bad check digit, the first
that applies. -/
def State.gtinReason (s : State) : Nat :=
  if s.len.toNat < 1 ∨ Config.digits < s.len.toNat then 1
  else if s.hasNonDigit then 2
  else if s.len.toNat = 14 ∧ s.digit 0 ≠ checkDigit s.fullPayload then 3
  else 0

/-- GTINVAL up to its completion (R154): there are no error checks. -/
def gtinvalBody (s : State) : Except ErrorCode State :=
  .ok (s.setResults (if s.gtinReason = 0 then 1 else 0) s.gtinReason)

/-- GTINVAL (R154): it always completes successfully. -/
def execGtinval (s : State) : Host.Outcome State Fault Refusal := complete s (gtinvalBody s)

end Sys2Proof.Machine
end

