-- ==== Sys2Proof/Machine/Dispatch.lean ====
section
/-! DEFINITION. The completion of each command on the state it finds (60_exceptions.md R165 (3)): one arm per command of
30_encoding.md R91. -/

namespace Sys2Proof.Machine

def exec (i : Instr) (s : State) : Host.Outcome State Fault Refusal :=
  match i with
  | .comb => Sys2Proof.Machine.execComb s
  | .widths => Sys2Proof.Machine.execWidths s
  | .ckclr => Sys2Proof.Machine.execCkclr s
  | .ckmac => Sys2Proof.Machine.execCkmac s
  | .ckred => Sys2Proof.Machine.execCkred s
  | .ckfin => Sys2Proof.Machine.execCkfin s
  | .gtincd => Sys2Proof.Machine.execGtincd s
  | .gtinval => Sys2Proof.Machine.execGtinval s

end Sys2Proof.Machine
end

