-- ==== Sys2Proof/Machine/Port.lean ====
section
/-! DEFINITION. The register window: the address map (10_state.md R47, 20_memory.md R71) and the host's reads and
writes (20_memory.md R72 to R82). -/

namespace Sys2Proof.Machine

/-- The operand registers of 10_state.md section 2 but for `W` (R22 to R32). -/
inductive OperandReg where
  | val | n | r | elems | maxw | flags | row | var | sc | dig0 | dig1 | len
  deriving DecidableEq, Repr

/-- What a word of the window is (R47, R71). -/
inductive Loc where
  | id | ctrl | status | cmd
  | operand (o : OperandReg)
  | acc | res0 | res1
  /-- `W` entry `i` (R33). -/
  | w (i : Fin 8)
  /-- The word of `WT` that holds columns `4h` to `4h+3` of row `r` (R71). -/
  | wt (r : Fin 32) (h : Fin 2)
  | reserved
  deriving DecidableEq, Repr

/-- The offset of an operand register (R47). -/
def OperandReg.offset : OperandReg → Nat
  | .val => 0x010
  | .n => 0x014
  | .r => 0x018
  | .elems => 0x01C
  | .maxw => 0x020
  | .flags => 0x024
  | .row => 0x028
  | .var => 0x02C
  | .sc => 0x030
  | .dig0 => 0x034
  | .dig1 => 0x038
  | .len => 0x03C

/-- The offset of a place of the window (R47, R71); of the reserved ones the first. -/
def Loc.offset : Loc → Nat
  | .id => 0x000
  | .ctrl => 0x004
  | .status => 0x008
  | .cmd => 0x00C
  | .operand o => o.offset
  | .acc => 0x040
  | .res0 => 0x044
  | .res1 => 0x048
  | .w i => 0x060 + 4 * i.val
  | .wt r h => 0x100 + 8 * r.val + 4 * h.val
  | .reserved => 0x04C

/-- The address map (R47, R71): what stands at a word-aligned offset. Offsets not listed are reserved. -/
def locate (a : Nat) : Loc :=
  if 0x100 ≤ a ∧ a < 0x200 then .wt (Fin.ofNat 32 ((a - 0x100) / 8)) (Fin.ofNat 2 ((a - 0x100) / 4))
  else if 0x060 ≤ a ∧ a < 0x080 then .w (Fin.ofNat 8 ((a - 0x060) / 4))
  else
    match a with
    | 0x000 => .id
    | 0x004 => .ctrl
    | 0x008 => .status
    | 0x00C => .cmd
    | 0x010 => .operand .val
    | 0x014 => .operand .n
    | 0x018 => .operand .r
    | 0x01C => .operand .elems
    | 0x020 => .operand .maxw
    | 0x024 => .operand .flags
    | 0x028 => .operand .row
    | 0x02C => .operand .var
    | 0x030 => .operand .sc
    | 0x034 => .operand .dig0
    | 0x038 => .operand .dig1
    | 0x03C => .operand .len
    | 0x040 => .acc
    | 0x044 => .res0
    | 0x048 => .res1
    | _ => .reserved

/-- An operand register as the host reads it: the stored field, zero-extended (R42, R72). -/
def State.readOperand (s : State) : OperandReg → Word
  | .val => s.val
  | .n => s.n.zeroExtend 32
  | .r => s.r.zeroExtend 32
  | .elems => s.elems.zeroExtend 32
  | .maxw => s.maxw.zeroExtend 32
  | .flags => (flagBit s.xnn).zeroExtend 32
  | .row => s.row.zeroExtend 32
  | .var => s.var.zeroExtend 32
  | .sc => s.sc.zeroExtend 32
  | .dig0 => s.dig0
  | .dig1 => s.dig1.zeroExtend 32
  | .len => s.len.zeroExtend 32

/-- `REG <- v[field bits]`: bits outside the field are dropped (R42, R74). -/
def State.setOperand (s : State) (v : Word) : OperandReg → State
  | .val => { s with val := v }
  | .n => { s with n := v.extractLsb' 0 6 }
  | .r => { s with r := v.extractLsb' 0 6 }
  | .elems => { s with elems := v.extractLsb' 0 4 }
  | .maxw => { s with maxw := v.extractLsb' 0 6 }
  | .flags => { s with xnn := v.getLsbD 0 }
  | .row => { s with row := v.extractLsb' 0 5 }
  | .var => { s with var := v.extractLsb' 0 2 }
  | .sc => { s with sc := v.extractLsb' 0 8 }
  | .dig0 => { s with dig0 := v }
  | .dig1 => { s with dig1 := v.extractLsb' 0 24 }
  | .len => { s with len := v.extractLsb' 0 4 }

/-- `W[i] <- v[5:0]` (R33, R74). -/
def State.setWidth (s : State) (i : Fin 8) (v : Word) : State :=
  { s with w := s.w.set i.val (v.extractLsb' 0 6) }

/-- The four weights of a `WT` word, column `4h` in the least significant byte (R71). -/
def State.weightWord (s : State) (r : Fin 32) (h : Fin 2) : Word :=
  s.wt[r.val][4 * h.val + 3] ++ (s.wt[r.val][4 * h.val + 2] ++ (s.wt[r.val][4 * h.val + 1] ++ s.wt[r.val][4 * h.val]))

/-- A row of `WT` after a write of the word that holds its columns `4h` to `4h+3` (R71, R78). -/
def setRowHalf (cols : Vector Byte 8) (h : Fin 2) (v : Word) : Vector Byte 8 :=
  (((cols.set (4 * h.val) (v.extractLsb' 0 8)).set (4 * h.val + 1) (v.extractLsb' 8 8)).set
    (4 * h.val + 2) (v.extractLsb' 16 8)).set (4 * h.val + 3) (v.extractLsb' 24 8)

/-- `for b in 0..3: WT[r][4h + b] <- v[8b+7 : 8b]` (R78). -/
def State.setWeightWord (s : State) (r : Fin 32) (h : Fin 2) (v : Word) : State :=
  { s with wt := s.wt.set r.val (setRowHalf s.wt[r.val] h v) }

/-- The word a read of a place returns (R72). -/
def State.readLoc (s : State) : Loc → Word
  | .id => Config.idWord
  | .ctrl => s.ctrlWord
  | .status => s.statusWord
  | .cmd => s.cmd
  | .operand o => s.readOperand o
  | .acc => s.acc
  | .res0 => s.res0
  | .res1 => s.res1
  | .w i => s.w[i.val].zeroExtend 32
  | .wt r h => s.weightWord r h
  | .reserved => 0

/-- A write to `CTRL` (R75): bit 31 resets and nothing else of the word is used; else `IE` is stored and a 1 in bit 1
locks the table. -/
def State.writeCtrl (s : State) (v : Word) : State :=
  if v.getLsbD 31 then s.softReset
  else { s with ie := v.getLsbD 0, wtlock := s.wtlock || v.getLsbD 1 }

/-- The part of a write to `STATUS` that acknowledges a completion (R76). -/
def State.writeStatusDone (s : State) (v : Word) : State :=
  if v.getLsbD 1 && !s.busy then s.acknowledge else s

/-- A write to `STATUS` (R76): a 1 in bit 1 acknowledges while the block is idle, a 1 in bit 4 clears `WRIGN`. -/
def State.writeStatus (s : State) (v : Word) : State :=
  { s.writeStatusDone v with wrign := s.wrign && !v.getLsbD 4 }

/-- A write to `CMD` (R77): discarded while fatal or busy, else the word is accepted, whatever it is. -/
def State.writeCmd (s : State) (v : Word) : State :=
  if s.fatal || s.busy then s.discardWrite else s.acceptCommand v

/-- What a host write of `v` to a place does (R73 to R79). -/
def State.writeLoc (s : State) (v : Word) : Loc → State
  | .id => s
  | .ctrl => s.writeCtrl v
  | .status => s.writeStatus v
  | .cmd => s.writeCmd v
  | .operand o => if s.busy then s.discardWrite else s.setOperand v o
  | .acc => s
  | .res0 => s
  | .res1 => s
  | .w i => if s.busy then s.discardWrite else s.setWidth i v
  | .wt r h => if s.busy || s.wtlock then s.discardWrite else s.setWeightWord r h v
  | .reserved => s

/-- Why an access cannot be expressed at the port (R82, U15), if it cannot. -/
def accessRefusal (offset bytes : Nat) : Option Refusal :=
  if bytes ≠ 4 then some .narrowAccess
  else if offset % 4 ≠ 0 then some .misalignedAccess
  else if Config.windowBytes ≤ offset then some .outsideWindow
  else none

/-- The state as the port shows it: while `rst_n` is low, reads return the reset values (R191). -/
def State.portView (s : State) : State := if s.rstN then s else s.softReset

/-- A host read (R72): it changes no register; the data it returns is kept in `lastRead`. -/
def hostRead (s : State) (offset bytes : Nat) : Host.Outcome State Fault Refusal :=
  match accessRefusal offset bytes with
  | some why => .refused why
  | none => .next { s with lastRead := s.portView.readLoc (locate offset) }

/-- A host write (R73): without effect while `rst_n` is low (R191). -/
def hostWrite (s : State) (offset bytes : Nat) (v : Word) : Host.Outcome State Fault Refusal :=
  match accessRefusal offset bytes with
  | some why => .refused why
  | none => .next (if s.rstN then s.writeLoc v (locate offset) else s)

end Sys2Proof.Machine
end

