-- ==== Sys2Proof/Machine/Engine.lean ====
section
/-! DEFINITION. Who moves next, and the move: the engine's completion (60_exceptions.md R165), the host's accesses
(20_memory.md R83) and the reset pin (70_reset_and_hazards.md R190), in the order of the state's `agenda`. -/

namespace Sys2Proof.Machine

/-- The completion of the pending command (R165 (3)): its word is decoded, and an illegal word completes with
`E_OPCODE` and nothing else (R93, R94, R173). -/
def completePending (s : State) : Host.Outcome State Fault Refusal :=
  match decode s.cmd with
  | .ok i => exec i s
  | .error _ => complete s (.error .eOpcode)

/-- The engine's turn: it has a step exactly when `BUSY = 1` (R165), and none while the block is held in reset
(R191, R193). -/
def engineTurn (s : State) : Host.Outcome State Fault Refusal :=
  if s.busy && s.rstN then completePending s else .next s

/-- One event takes effect on the state from whose agenda it was taken. -/
def takeEvent (s : State) : Event → Host.Outcome State Fault Refusal
  | .read offset bytes => hostRead s offset bytes
  | .write offset bytes v => hostWrite s offset bytes v
  | .complete => engineTurn s
  | .rstPin level => .next (s.driveReset level)

/-- One atomic step (R83): the first event of the agenda; with none left, the engine completes what is pending (R165,
R200: the completion is always enabled while `BUSY = 1`), and an idle block stays as it is (R202). -/
def nextTurn (s : State) : Host.Outcome State Fault Refusal :=
  match s.agenda with
  | [] => engineTurn s
  | ev :: rest => takeEvent { s with agenda := rest } ev

/-- `word` made the pending command, as a host write to `CMD` of an idle block would (R77), with the engine's turn
next and the block out of reset: the very next step completes it. -/
def State.loadCommand (s : State) (word : Word) : State :=
  { s.acceptCommand word with rstN := true, agenda := .complete :: s.agenda }

end Sys2Proof.Machine
end

