-- ==== Sys2Proof/Machine/Step.lean ====
section
/-! DEFINITION. The step of the machine, and the placing of a command word where the next step takes it from. -/

namespace Sys2Proof.Machine

/-- One atomic step of the two agents and the reset pin (20_memory.md R83, 60_exceptions.md R165). -/
def step (s : State) : Host.Outcome State Fault Refusal := nextTurn s

/-- `s` with the instruction whose `nbits` bits are `w` pending, so that the very next step completes it: there is no
program counter and no fetch (10_state.md R21), a command comes from the host's write to `CMD` (20_memory.md R86).
Log entry 5. -/
def State.withFetchWord (s : State) (nbits w : Nat) : State :=
  s.loadCommand (BitVec.ofNat 32 (w % 2 ^ nbits))

end Sys2Proof.Machine
end

