-- ==== Sys2Proof/Machine/Notation.lean ====
section
/-! DEFINITION. The host notation and its pseudo-operations (30_encoding.md R97, R98), as the lists of events that the
host's lines stand for: what a host program puts on the agenda. -/

namespace Sys2Proof.Machine

/-- `CMD MNEMONIC` (R97): the write that starts a command. -/
def hostCmd (i : Instr) : List Event := [.wr Loc.cmd.offset (encode i)]

/-- `WAIT` (R98): reads of `STATUS` until one finds `BUSY = 0`, at least one. `early` reads come before the completion,
and the read after it is the last (R83 (4)). Log entry 6. -/
def hostWait (early : Nat) : List Event :=
  List.replicate early (.rd Loc.status.offset) ++ [.complete, .rd Loc.status.offset]

/-- `RUN MNEMONIC` (R98). -/
def hostRun (i : Instr) (early : Nat) : List Event := hostCmd i ++ hostWait early

/-- `ACK` (R98): clears `DONE`, `ERR`, `ECODE`. -/
def hostAck : List Event := [.wr Loc.status.offset 0x00000002]

/-- `LOCK` and `LOCK IE` (R98): sets `WTLOCK` and writes `IE`. -/
def hostLock (ie : Bool) : List Event := [.wr Loc.ctrl.offset (if ie then 0x00000003 else 0x00000002)]

/-- `SRST` (R98). -/
def hostSrst : List Event := [.wr Loc.ctrl.offset 0x80000000]

/-- `SETW [w0, ..., wk-1]` (R98), from entry `i` on. -/
def hostSetWFrom (i : Nat) : List Nat → List Event
  | [] => []
  | v :: rest => .wr (0x060 + 4 * i) (BitVec.ofNat 32 v) :: hostSetWFrom (i + 1) rest

/-- `SETW [w0, ..., wk-1]` (R98). -/
def hostSetW (ws : List Nat) : List Event := hostSetWFrom 0 ws

/-- The value whose nibbles are the characters of a digit string, the last character in nibble 0 (R98). -/
def digitsValue (digits : List Nat) : Nat := digits.foldl (fun acc d => 16 * acc + d) 0

/-- `SETDIG "d1d2...dL"` (R98), the characters as values 0 to 15. -/
def hostSetDig (digits : List Nat) : List Event :=
  [.wr OperandReg.dig0.offset (BitVec.ofNat 32 (digitsValue digits)),
   .wr OperandReg.dig1.offset (BitVec.ofNat 32 (digitsValue digits / 4294967296)),
   .wr OperandReg.len.offset (BitVec.ofNat 32 digits.length)]

/-- Four weights packed into a `WT` word, the first in the least significant byte (R71, R98). -/
def packWeights (c : List Nat) (h : Nat) : Word :=
  BitVec.ofNat 32
    (c.getD (4 * h) 0 + 256 * c.getD (4 * h + 1) 0 + 65536 * c.getD (4 * h + 2) 0 + 16777216 * c.getD (4 * h + 3) 0)

/-- `LOADWT r, [c0, ..., c7]` (R98). -/
def hostLoadWt (r : Nat) (c : List Nat) : List Event :=
  [.wr (0x100 + 8 * r) (packWeights c 0), .wr (0x104 + 8 * r) (packWeights c 1)]

end Sys2Proof.Machine
end

