-- ==== Sys2Proof/Safety.lean ====
section
/-! DEFINITION. What counts as a good state and as the end of a run, in the terms the statements use. -/

namespace Sys2Proof.Machine

/-- A host program has ended (70_reset_and_hazards.md R202): its last access is made and no command is pending. -/
abbrev State.finished (s : State) : Prop := s.agenda = [] ∧ s.busy = false

/-- A run has not gone wrong (R202): the fatal state was not reached. -/
abbrev State.notFatal (s : State) : Prop := s.fatal = false

/-- What 10_state.md R39 says of the status flags together, and R170 of the codes. -/
abbrev State.statusConsistent (s : State) : Prop :=
  ¬(s.busy = true ∧ s.done = true) ∧
  (s.err = true → s.done = true ∧ s.ecode ≠ 0) ∧
  (s.err = false → s.ecode = 0) ∧
  s.ecode.toNat ≤ 7

/-- Every register holds its reset value, whatever `WT` and the model's own fields hold (70 R191, R192). -/
abbrev State.registersAtReset (s : State) : Prop := s = s.softReset

/-- While the pin `rst_n` is low every register stays at its reset value (R191). -/
abbrev State.resetHeld (s : State) : Prop := s.rstN = false → s.registersAtReset

/-- The event is a reset: a change of the pin, or a host write to `CTRL` with bit 31 set (R190). -/
def eventIsReset : Event → Bool
  | .rstPin _ => true
  | .write offset _ v => offset == 0x004 && v.getLsbD 31
  | .read _ _ => false
  | .complete => false

/-- The first event of the agenda is a reset (R190). -/
def State.resetNext (s : State) : Prop := ∃ ev rest, s.agenda = ev :: rest ∧ eventIsReset ev = true

/-- The engine's turn is next: its event heads the agenda, or nothing else is left; `rest` is what stays (R83, R165). -/
abbrev State.engineNext (s : State) (rest : List Event) : Prop :=
  (s.agenda = [] ∧ rest = []) ∨ s.agenda = .complete :: rest

/-- The next atomic step is a host write of `v` to offset `a` that reaches the block: `rst_n` is high (R73, R191). -/
def State.hostWrites (s : State) (a : Nat) (v : Word) : Prop := s.rstN = true ∧ ∃ rest, s.agenda = .wr a v :: rest

/-- The next atomic step is the completion of the pending command (60_exceptions.md R165). -/
def State.completesNext (s : State) : Prop := s.busy = true ∧ s.rstN = true ∧ ∃ rest, s.engineNext rest

/-- The next atomic step is the completion of the pending command, and its word is `i`'s (R165, R100). -/
def State.completesAs (s : State) (i : Instr) : Prop := s.completesNext ∧ decode s.cmd = .ok i

/-- The next atomic step is a host write that clears `DONE`, `ERR` and `ECODE`: the acknowledgement, or the acceptance
of a command, both while idle (10_state.md R39, 20_memory.md R76, R77). -/
def State.clearsDoneNext (s : State) : Prop :=
  s.busy = false ∧
    ((∃ v, s.hostWrites 0x008 v ∧ v.getLsbD 1 = true) ∨ (s.fatal = false ∧ ∃ v, s.hostWrites 0x00C v))

/-- The next atomic step is a host write that is discarded because of `BUSY`, `FATAL` or `WTLOCK` (R74, R77, R78). -/
def State.discardsNext (s : State) : Prop :=
  ∃ a v, s.hostWrites a v ∧
    ((s.busy = true ∧ ((0x00C ≤ a ∧ a ≤ 0x03C) ∨ (0x060 ≤ a ∧ a ≤ 0x07C) ∨ (0x100 ≤ a ∧ a ≤ 0x1FC))) ∨
      (s.fatal = true ∧ a = 0x00C) ∨
      (s.wtlock = true ∧ 0x100 ≤ a ∧ a ≤ 0x1FC))

/-- `s` with the operand registers of section 2 of 10_state.md, but for `W`, taken from `t`. -/
def State.withOperandsOf (s t : State) : State :=
  { s with
    val := t.val
    n := t.n
    r := t.r
    elems := t.elems
    maxw := t.maxw
    xnn := t.xnn
    row := t.row
    var := t.var
    sc := t.sc
    dig0 := t.dig0
    dig1 := t.dig1
    len := t.len }

/-- The bits of an operand register's field (10_state.md R47). -/
def OperandReg.bits : OperandReg → Nat
  | .val => 32
  | .n => 6
  | .r => 6
  | .elems => 4
  | .maxw => 6
  | .flags => 1
  | .row => 5
  | .var => 2
  | .sc => 8
  | .dig0 => 32
  | .dig1 => 24
  | .len => 4

/-- WIDTHS rejects the operands (40_combinatorics.md R116): one of its five tests holds. -/
abbrev State.widthsRejected (s : State) : Prop :=
  (s.elems.toNat < 2 ∨ 8 < s.elems.toNat) ∨
  (s.n.toNat < s.elems.toNat ∨ 32 < s.n.toNat) ∨
  s.maxw.toNat < 1 ∨
  2 * s.maxw.toNat + s.elems.toNat ≤ s.n.toNat ∨
  (s.xnn = true ∧ s.maxw.toNat + 2 * s.elems.toNat - 1 ≤ s.n.toNat)

/-- The leading `ELEMS` entries of `W`, as the vector WIDTHS returns (R33, R120). -/
def State.widthList (s : State) : List Nat := (s.w.toList.take s.elems.toNat).map BitVec.toNat

/-- The size of the domain of WIDTHS for the operands held (R122 (4)). -/
def State.domain (s : State) : Int := domainSize s.n.toNat s.elems.toNat s.maxw.toNat s.xnn

/-- The vector lies in the set WIDTHS enumerates for the operands held (R115). -/
abbrev State.enumerates (s : State) (out : List Nat) : Prop := inV s.n.toNat s.elems.toNat s.maxw.toNat s.xnn out

/-- The rank of a vector for the operands held (R121). -/
def State.rankOf (s : State) (out : List Nat) : Int := rank s.n.toNat s.maxw.toNat s.xnn out

/-- The sum of products of CKMAC over the eight columns of its row, those from `ELEMS` up left out (41_checksum.md
R132). -/
def State.rowSum (s : State) : Nat :=
  ∑ i : Fin 8,
    if i.val < s.elems.toNat then s.w[i.val].toNat * ((s.wt[s.row.toNat]'(s.row.isLt))[i.val]).toNat else 0

/-- One CKMAC's vector, row and count, as a host sets them before the command (R130). -/
structure MacInput where
  w : Vector (BitVec 6) 8
  row : BitVec 5
  elems : BitVec 4
  deriving DecidableEq, Repr

/-- `s` with the operands of one CKMAC set (R130). -/
def State.withMac (s : State) (m : MacInput) : State := { s with w := m.w, row := m.row, elems := m.elems }

/-- A sequence of CKMACs, the host setting the operands before each (R130). -/
def macSequence (s : State) : List MacInput → Host.Outcome State Fault Refusal
  | [] => .next s
  | m :: rest =>
    match exec .ckmac (s.withMac m) with
    | .next t => macSequence t rest
    | .fault why => .fault why
    | .refused why => .refused why

/-- CKCLR and then a sequence of CKMACs (R139). -/
def macSequenceAfterClear (s : State) (ms : List MacInput) : Host.Outcome State Fault Refusal :=
  match exec .ckclr s with
  | .next t => macSequence t ms
  | .fault why => .fault why
  | .refused why => .refused why

/-- Every digit in use is 0 to 9 (42_gtin.md R153, R154). -/
abbrev State.digitsOk (s : State) : Prop := ∀ j < s.len.toNat, s.digit j ≤ 9

/-- `S(p)` for the digits in use, left-padded with zeros to thirteen (R151, R153). -/
def State.paddedSum (s : State) : Nat :=
  ∑ j : Fin 13, (if j.val < s.len.toNat then s.digit j.val else 0) * (if j.val % 2 = 0 then 3 else 1)

/-- `S(p)` for the thirteen digits left of the check digit (R151, R154). -/
def State.payloadSum (s : State) : Nat :=
  ∑ j : Fin 13, s.digit (j.val + 1) * (if j.val % 2 = 0 then 3 else 1)

/-- The codes a command can raise (60_exceptions.md R170). -/
def errorCodesOf : Instr → List Nat
  | .comb => [2]
  | .widths => [2, 3, 7]
  | .ckclr => []
  | .ckmac => [2, 5, 6]
  | .ckred => [2]
  | .ckfin => [2]
  | .gtincd => [2, 4]
  | .gtinval => []

/-- Two states agree on what a command reads (30_encoding.md R92), the entries a rule says are not looked at left out
(93 U21). -/
def agreeOnReads (s t : State) : Instr → Prop
  | .comb => s.n = t.n ∧ s.r = t.r
  | .widths => s.val = t.val ∧ s.n = t.n ∧ s.elems = t.elems ∧ s.maxw = t.maxw ∧ s.xnn = t.xnn
  | .ckclr => True
  | .ckmac =>
    s.elems = t.elems ∧ s.row = t.row ∧ s.acc = t.acc ∧ s.wtlock = t.wtlock ∧
      ∀ i < s.elems.toNat, s.width i = t.width i ∧ s.weight s.row.toNat i = t.weight s.row.toNat i
  | .ckred => s.acc = t.acc ∧ s.var = t.var
  | .ckfin => s.acc = t.acc ∧ s.var = t.var ∧ (s.var = 2 → s.sc = t.sc)
  | .gtincd => s.len = t.len ∧ ∀ j < s.len.toNat, s.digit j = t.digit j
  | .gtinval => s.len = t.len ∧ ∀ j < s.len.toNat, s.digit j = t.digit j

/-- Two next states agree on what a command writes on success (R92, 10_state.md R43). -/
def agreeOnWrites (s t : State) : Instr → Prop
  | .comb => s.res0 = t.res0 ∧ s.res1 = t.res1
  | .widths => s.w = t.w
  | .ckclr => s.acc = t.acc
  | .ckmac => s.acc = t.acc
  | .ckred => s.res0 = t.res0 ∧ s.res1 = t.res1
  | .ckfin => s.res0 = t.res0 ∧ s.res1 = t.res1
  | .gtincd => s.res0 = t.res0 ∧ s.res1 = t.res1
  | .gtinval => s.res0 = t.res0 ∧ s.res1 = t.res1

end Sys2Proof.Machine
end

