-- ==== Sys2Proof/Certificates/Slice0/Obligations.lean ====
section
/-! DEFINITION. The statements about CWE, for the provers. Each formalises what its docstring cites of spec/. -/

open Sys2Proof Sys2Proof.Machine

/-! ## Encoding -/

/-- The opcode map of 30_encoding.md R91 and the total decoder of R100, on all words: each command has its one word,
and every other word is illegal, by the field that makes it so (R93, R94). -/
def Obligations.DecodeFollowsOpcodeMap : Prop :=
  ∀ w : Word,
    (decode w = .ok .comb ↔ w = 0x00000001) ∧
    (decode w = .ok .widths ↔ w = 0x00000002) ∧
    (decode w = .ok .ckclr ↔ w = 0x00000010) ∧
    (decode w = .ok .ckmac ↔ w = 0x00000011) ∧
    (decode w = .ok .ckred ↔ w = 0x00000012) ∧
    (decode w = .ok .ckfin ↔ w = 0x00000013) ∧
    (decode w = .ok .gtincd ↔ w = 0x00000020) ∧
    (decode w = .ok .gtinval ↔ w = 0x00000021) ∧
    (decode w = .error .upperBits ↔ 256 ≤ w.toNat) ∧
    (decode w = .error .reservedOpcode ↔
      w.toNat < 256 ∧ w.toNat ∉ [0x01, 0x02, 0x10, 0x11, 0x12, 0x13, 0x20, 0x21])

/-- Decode and encode agree in both directions: an encoded well-formed command decodes to itself, and a word that
decodes to a command is that command's word (R90, R91).
Derived: the rules give no encoder. -/
def Obligations.DecodeEncodeRoundTrip : Prop :=
  (∀ i : Instr, i.wellFormed = true → decode (encode i) = .ok i) ∧
  ∀ (w : Word) (i : Instr), decode w = .ok i → encode i = w

/-- A few command words of R91 and illegal words of R93, R94 decode as the rules say (95_test_vectors.md 2.7). -/
def Obligations.SampleWordsDecode : Prop :=
  decode 0x00000002 = .ok .widths ∧ decode 0x00000013 = .ok .ckfin ∧ decode 0x00000021 = .ok .gtinval ∧
  decode 0x00000000 = .error .reservedOpcode ∧ decode 0x00000102 = .error .upperBits

/-! ## The combinatorics unit -/

/-- COMB, 40_combinatorics.md R113: `RES0 <- C(N, R)`, the exact binomial, `RES1 <- 0`, and nothing else but the
completion's flags; `E_OPERAND` and no write when `N > 32` or `R > N`. -/
def Obligations.CombGivesBinomialOrRefuses : Prop :=
  decode 0x00000001 = .ok .comb ∧
  ∀ s : State,
    (s.n.toNat ≤ 32 → s.r.toNat ≤ s.n.toNat →
      ∃ t, exec .comb s = .next t ∧ t.res0.toNat = Nat.choose s.n.toNat s.r.toNat ∧
        t = { s with res0 := t.res0, res1 := 0, busy := false, done := true }) ∧
    ((32 < s.n.toNat ∨ s.n.toNat < s.r.toNat) →
      exec .comb s = .next { s with busy := false, done := true, err := true, ecode := 2 })

/-- WIDTHS, the operand checks of R116: any of the five ends the command with `E_OPERAND` and no write; with none of
them it never ends with `E_OPERAND`. -/
def Obligations.WidthsChecksOperands : Prop :=
  decode 0x00000002 = .ok .widths ∧
  ∀ s : State,
    (s.widthsRejected →
      exec .widths s = .next { s with busy := false, done := true, err := true, ecode := 2 }) ∧
    (¬s.widthsRejected → s.err = false →
      ∀ t, exec .widths s = .next t → ¬(t.err = true ∧ t.ecode = 2))

/-- WIDTHS, R120: with accepted operands it either writes a vector that passes the self-check into all eight entries of
`W`, zeros from its end up, and nothing else, or ends with `E_RANGE` and no write; `E_INVARIANT` is never raised.
Derived: that `E_INVARIANT` 'cannot be raised by any operands' is the spec's own inference. -/
def Obligations.WidthsWritesCheckedVector : Prop :=
  ∀ s : State, ¬s.widthsRejected →
    (∃ out t, s.enumerates out ∧ exec .widths s = .next t ∧
      (∀ (i : Nat) (hi : i < 8), (t.w[i]).toNat = out.getD i 0) ∧
      t = { s with w := t.w, busy := false, done := true }) ∨
    exec .widths s = .next { s with busy := false, done := true, err := true, ecode := 3 }

/-- WIDTHS, R119 with the domain size of R122 (4): with accepted operands it completes successfully exactly when `VAL`
is below the size of the domain, with the vector of rank `VAL`; at or above it ends with `E_RANGE` and writes nothing.
Derived: the closed form and the exactness are the spec's own inference ('WIDTHS returns the vector of `V` whose lexicographic rank ... is `VAL`, for `0 <= VAL < T`'). -/
def Obligations.WidthsCompletesBelowDomainSize : Prop :=
  ∀ s : State, ¬s.widthsRejected →
    ((s.val.toNat : Int) < s.domain →
      ∃ t, exec .widths s = .next t ∧
        t = { s with w := t.w, busy := false, done := true } ∧
        s.enumerates t.widthList ∧ s.rankOf t.widthList = s.val.toNat ∧
        ∀ (i : Nat) (hi : i < 8), s.elems.toNat ≤ i → t.w[i] = 0) ∧
    (s.domain ≤ (s.val.toNat : Int) →
      exec .widths s = .next { s with busy := false, done := true, err := true, ecode := 3 })

/-- `Rank(WIDTHS(v)) = v` (R121): the inverse combinatorial count of a successful result returns `VAL`.
Derived: the spec's own inference ('the round-trip property of the document'). -/
def Obligations.RankInvertsWidths : Prop :=
  ∀ s t : State, ¬s.widthsRejected → s.err = false → exec .widths s = .next t → t.err = false →
    s.rankOf t.widthList = s.val.toNat

/-- WIDTHS is onto (R122 (2), (3)): every vector of `V` has a rank in the domain, and WIDTHS on that rank returns
it.
Derived: the spec's own inference ('WIDTHS is a bijection from `[0, T)` onto `V`, `Rank` is its inverse'). -/
def Obligations.WidthsReachesEveryVector : Prop :=
  ∀ (s : State) (out : List Nat), ¬s.widthsRejected → s.enumerates out →
    0 ≤ s.rankOf out ∧ s.rankOf out < s.domain ∧
    ∀ v : Word, (v.toNat : Int) = s.rankOf out →
      ∃ t, exec .widths { s with val := v } = .next t ∧ t.widthList = out ∧
        t = { s with val := v, w := t.w, busy := false, done := true }

/-- The order of enumeration (R115): a smaller `VAL` gives the lexicographically smaller vector (00_scope.md R13).
Derived: one part of the rule. -/
def Obligations.WidthsOrderIsLexicographic : Prop :=
  ∀ (s t t' : State) (v v' : Word), ¬s.widthsRejected → s.err = false → v.toNat < v'.toNat →
    exec .widths { s with val := v } = .next t → t.err = false →
    exec .widths { s with val := v' } = .next t' → t'.err = false →
    List.Lex (· < ·) t.widthList t'.widthList

/-! ## The checksum unit -/

/-- CKCLR, 41_checksum.md R131: `ACC <- 0`, whatever the state, and nothing else but the completion's flags. -/
def Obligations.CkclrClearsAccumulator : Prop :=
  decode 0x00000010 = .ok .ckclr ∧
  ∀ s : State, exec .ckclr s = .next { s with acc := 0, busy := false, done := true }

/-- CKMAC, R132: the exact sum of the products of the leading `ELEMS` entries with their columns is added to `ACC`; the
three errors in their order, none of which writes. -/
def Obligations.CkmacAddsRowSumOrRefuses : Prop :=
  decode 0x00000011 = .ok .ckmac ∧
  ∀ s : State,
    (s.wtlock = true → 1 ≤ s.elems.toNat → s.elems.toNat ≤ 8 → s.acc.toNat + s.rowSum < 2 ^ 32 →
      ∃ t, exec .ckmac s = .next t ∧ t.acc.toNat = s.acc.toNat + s.rowSum ∧
        t = { s with acc := t.acc, busy := false, done := true }) ∧
    (s.wtlock = false →
      exec .ckmac s = .next { s with busy := false, done := true, err := true, ecode := 5 }) ∧
    (s.wtlock = true → (s.elems.toNat < 1 ∨ 8 < s.elems.toNat) →
      exec .ckmac s = .next { s with busy := false, done := true, err := true, ecode := 2 }) ∧
    (s.wtlock = true → 1 ≤ s.elems.toNat → s.elems.toNat ≤ 8 → 2 ^ 32 ≤ s.acc.toNat + s.rowSum →
      exec .ckmac s = .next { s with busy := false, done := true, err := true, ecode := 6 })

/-- R139: after CKCLR, a set of CKMACs whose total fits leaves in `ACC` the sum of their sums, whatever their order, and
so the residue CKRED gives does not depend on the order either.
Derived: the spec's own inference ('the residue of a symbol does not depend on the order in which the host visits its signs'). -/
def Obligations.ChecksumOrderDoesNotMatter : Prop :=
  ∀ (s : State) (ms ms' : List MacInput), ms.Perm ms' → s.wtlock = true →
    (∀ m ∈ ms, 1 ≤ m.elems.toNat ∧ m.elems.toNat ≤ 8) →
    (ms.map fun m => (s.withMac m).rowSum).sum < 2 ^ 32 →
    ∃ t t', macSequenceAfterClear s ms = .next t ∧ macSequenceAfterClear s ms' = .next t' ∧
      t.acc.toNat = (ms.map fun m => (s.withMac m).rowSum).sum ∧ t'.acc = t.acc ∧
      ∃ u u', exec .ckred t = .next u ∧ exec .ckred t' = .next u' ∧ u.res0 = u'.res0

/-- CKRED, R133: the residue of `ACC` by the modulus `VAR` selects, `RES1 <- 0`, `ACC` kept; `VAR = 3` ends with
`E_OPERAND` and no write. -/
def Obligations.CkredReducesByVariant : Prop :=
  decode 0x00000012 = .ok .ckred ∧
  ∀ s : State,
    (∀ m : Nat, (s.var = 0 ∧ m = 79) ∨ (s.var = 1 ∧ m = 89) ∨ (s.var = 2 ∧ m = 211) →
      ∃ t, exec .ckred s = .next t ∧ t.res0.toNat = s.acc.toNat % m ∧
        t = { s with res0 := t.res0, res1 := 0, busy := false, done := true }) ∧
    (s.var = 3 → exec .ckred s = .next { s with busy := false, done := true, err := true, ecode := 2 })

/-- CKFIN, R134 to R137. `VAR = 0`: the residue moved up past 8 and past 72, as quotient and remainder by 9 (the whole
map, 95_test_vectors.md 2.5). `VAR = 1`: the residue. `VAR = 2`: `211*(SC-3)` plus the residue, and the residue; `SC`
below 3, and `VAR = 3`, end with `E_OPERAND` and no write. -/
def Obligations.CkfinAppliesFinalStep : Prop :=
  decode 0x00000013 = .ok .ckfin ∧
  ∀ s : State,
    (s.var = 0 →
      ∃ t, exec .ckfin s = .next t ∧
        t = { s with res0 := t.res0, res1 := t.res1, busy := false, done := true } ∧ t.res1.toNat < 9 ∧
        (s.acc.toNat % 79 < 8 → 9 * t.res0.toNat + t.res1.toNat = s.acc.toNat % 79) ∧
        (8 ≤ s.acc.toNat % 79 → s.acc.toNat % 79 < 71 →
          9 * t.res0.toNat + t.res1.toNat = s.acc.toNat % 79 + 1) ∧
        (71 ≤ s.acc.toNat % 79 → 9 * t.res0.toNat + t.res1.toNat = s.acc.toNat % 79 + 2)) ∧
    (s.var = 1 →
      ∃ t, exec .ckfin s = .next t ∧ t.res0.toNat = s.acc.toNat % 89 ∧
        t = { s with res0 := t.res0, res1 := 0, busy := false, done := true }) ∧
    (s.var = 2 → 3 ≤ s.sc.toNat →
      ∃ t, exec .ckfin s = .next t ∧ (t.res0.toNat : Int) = 211 * ((s.sc.toNat : Int) - 3) + (s.acc.toNat % 211 : Nat) ∧
        t.res1.toNat = s.acc.toNat % 211 ∧
        t = { s with res0 := t.res0, res1 := t.res1, busy := false, done := true }) ∧
    (s.var = 2 → s.sc.toNat < 3 →
      exec .ckfin s = .next { s with busy := false, done := true, err := true, ecode := 2 }) ∧
    (s.var = 3 → exec .ckfin s = .next { s with busy := false, done := true, err := true, ecode := 2 })

/-- R135: the 79 residues map one-to-one onto pairs of indices 0 to 8, and the pairs (0,8) and (8,0) never occur.
Derived: one part of the rule. -/
def Obligations.FinderPairsAreDistinct : Prop :=
  ∀ s s' t t' : State, s.var = 0 → s'.var = 0 → exec .ckfin s = .next t → exec .ckfin s' = .next t' →
    t.res0.toNat ≤ 8 ∧ t.res1.toNat ≤ 8 ∧
    ¬(t.res0 = 0 ∧ t.res1 = 8) ∧ ¬(t.res0 = 8 ∧ t.res1 = 0) ∧
    (s.acc.toNat % 79 ≠ s'.acc.toNat % 79 → ¬(t.res0 = t'.res0 ∧ t.res1 = t'.res1))

/-! ## The GTIN unit -/

/-- The digit buffer, 10_state.md R31: nibble `j` of `DIG0` for `j` = 0 to 7, nibble `j - 8` of `DIG1` for 8 to 13.
Derived: one part of the rule. -/
def Obligations.DigitBufferLayout : Prop :=
  ∀ (s : State) (j : Nat),
    (j < 8 → s.digit j = s.dig0.toNat / 16 ^ j % 16) ∧
    (8 ≤ j → j < 14 → s.digit j = s.dig1.toNat / 16 ^ (j - 8) % 16)

/-- GTINCD, 42_gtin.md R153 with R151 and R152: for 1 to 13 digits `RES1` is their weighted sum and `RES0` the one digit
that brings it to a multiple of 10; a bad length ends with `E_OPERAND`, then a non-digit with `E_DIGIT`, no write. -/
def Obligations.GtincdGivesCheckDigitOrRefuses : Prop :=
  decode 0x00000020 = .ok .gtincd ∧
  ∀ s : State,
    (1 ≤ s.len.toNat → s.len.toNat ≤ 13 → s.digitsOk →
      ∃ t, exec .gtincd s = .next t ∧ t.res1.toNat = s.paddedSum ∧
        t.res0.toNat ≤ 9 ∧ (t.res0.toNat + s.paddedSum) % 10 = 0 ∧
        t = { s with res0 := t.res0, res1 := t.res1, busy := false, done := true }) ∧
    ((s.len.toNat < 1 ∨ 13 < s.len.toNat) →
      exec .gtincd s = .next { s with busy := false, done := true, err := true, ecode := 2 }) ∧
    (1 ≤ s.len.toNat → s.len.toNat ≤ 13 → ¬s.digitsOk →
      exec .gtincd s = .next { s with busy := false, done := true, err := true, ecode := 4 })

/-- GTINVAL, R154: (0,1) for a wrong length, then (0,2) for a non-digit, then (0,3) for 14 digits whose last is not the
check digit of the others, else (1,0); it never fails and writes nothing else. -/
def Obligations.GtinvalAnswersWithReason : Prop :=
  decode 0x00000021 = .ok .gtinval ∧
  ∀ s : State,
    ((s.len.toNat < 1 ∨ 14 < s.len.toNat) →
      exec .gtinval s = .next { s with res0 := 0, res1 := 1, busy := false, done := true }) ∧
    (1 ≤ s.len.toNat → s.len.toNat ≤ 14 → ¬s.digitsOk →
      exec .gtinval s = .next { s with res0 := 0, res1 := 2, busy := false, done := true }) ∧
    (s.len.toNat = 14 → s.digitsOk → (s.digit 0 + s.payloadSum) % 10 ≠ 0 →
      exec .gtinval s = .next { s with res0 := 0, res1 := 3, busy := false, done := true }) ∧
    (s.len.toNat = 14 → s.digitsOk → (s.digit 0 + s.payloadSum) % 10 = 0 →
      exec .gtinval s = .next { s with res0 := 1, res1 := 0, busy := false, done := true }) ∧
    (1 ≤ s.len.toNat → s.len.toNat ≤ 13 → s.digitsOk →
      exec .gtinval s = .next { s with res0 := 1, res1 := 0, busy := false, done := true })

/-- R155 (1): the check digit GTINCD gives for 13 digits makes the 14 digits valid.
Derived: the spec's own inference. -/
def Obligations.CheckDigitValidates : Prop :=
  ∀ s t s' : State, s.len.toNat = 13 → s.digitsOk → exec .gtincd s = .next t →
    s'.len.toNat = 14 → s'.digit 0 = t.res0.toNat → (∀ j < 13, s'.digit (j + 1) = s.digit j) →
    ∃ t', exec .gtinval s' = .next t' ∧ t'.res0 = 1 ∧ t'.res1 = 0

/-- R155 (2): changing exactly one digit of a valid 14-digit value makes GTINVAL answer (0,3).
Derived: the spec's own inference. -/
def Obligations.SingleDigitErrorIsDetected : Prop :=
  ∀ (s s' t : State) (k : Nat), s.len.toNat = 14 → s'.len.toNat = 14 → s.digitsOk → s'.digitsOk →
    k < 14 → s'.digit k ≠ s.digit k → (∀ j < 14, j ≠ k → s'.digit j = s.digit j) →
    exec .gtinval s = .next t → t.res0 = 1 →
    ∃ t', exec .gtinval s' = .next t' ∧ t'.res0 = 0 ∧ t'.res1 = 3

/-- R155 (3): the exchange of two neighbouring digits that differ by 5 is not detected.
Derived: the spec's own inference ('such an exchange is not detected'). -/
def Obligations.ExchangeByFiveIsNotDetected : Prop :=
  ∀ (s s' t : State) (k : Nat), s.len.toNat = 14 → s'.len.toNat = 14 → s.digitsOk →
    k + 1 < 14 → (s.digit k = s.digit (k + 1) + 5 ∨ s.digit (k + 1) = s.digit k + 5) →
    s'.digit k = s.digit (k + 1) → s'.digit (k + 1) = s.digit k →
    (∀ j < 14, j ≠ k → j ≠ k + 1 → s'.digit j = s.digit j) →
    exec .gtinval s = .next t → t.res0 = 1 →
    ∃ t', exec .gtinval s' = .next t' ∧ t'.res0 = 1 ∧ t'.res1 = 0

/-! ## Completion of commands -/

/-- When the engine's turn is next, a command is pending and the block is out of reset, a step is `exec` of the decoded
instruction, the engine's event being taken from the agenda (60_exceptions.md R165).
Derived: who moves next is the model's form, log entry 1. -/
def Obligations.StepRunsDecodedInstruction : Prop :=
  ∀ (s : State) (rest : List Event) (i : Instr), s.engineNext rest → s.busy = true → s.rstN = true →
    decode s.cmd = .ok i → i.wellFormed = true → step s = exec i { s with agenda := rest }

/-- Illegal words, 30_encoding.md R93 and R94: written to an idle block they are accepted, and they complete with
`E_OPCODE`, changing nothing else. -/
def Obligations.IllegalWordCompletesWithOpcodeError : Prop :=
  ∀ (s : State) (v : Word) (rest : List Event), s.rstN = true → s.busy = false → s.fatal = false →
    s.agenda = .wr 0x00C v :: .complete :: rest →
    (256 ≤ v.toNat ∨ v.toNat ∉ [0x01, 0x02, 0x10, 0x11, 0x12, 0x13, 0x20, 0x21]) →
    step s = .next { s with cmd := v, busy := true, done := false, err := false, ecode := 0,
                            agenda := .complete :: rest } ∧
    ∀ t, step s = .next t →
      step t = .next { s with cmd := v, busy := false, done := true, err := true, ecode := 1, agenda := rest }

/-- An idle block with no access to come stays as it is (10_state.md R20; the model's choice of what a step answers
then is log entry 1). -/
def Obligations.IdleBlockStays : Prop :=
  ∀ s : State, s.finished → step s = .next s

/-- R166 and R167: from a state without an error, a completion either sets `DONE`, clears `BUSY`, leaves `ERR` and
`ECODE` 0 and changes at most `W`, `ACC`, `RES0`, `RES1`; or it writes none of these and records the error's code, and
`FATAL` is set by `E_INVARIANT` only. -/
def Obligations.CompletionIsSuccessOrCleanError : Prop :=
  ∀ (i : Instr) (s t : State), s.err = false → s.ecode = 0 → exec i s = .next t →
    (t.err = false →
      t = { s with w := t.w, acc := t.acc, res0 := t.res0, res1 := t.res1, busy := false, done := true }) ∧
    (t.err = true →
      ∃ e : ErrorCode,
        t = { s with busy := false, done := true, err := true, ecode := t.ecode, fatal := t.fatal } ∧
        t.ecode = e.code ∧ (t.fatal = true ↔ s.fatal = true ∨ e = .eInvariant))

/-- The table of R170: a command ends only with the codes the table lists for it; CKCLR and GTINVAL raise nothing.
Derived: one part of the rule. -/
def Obligations.CommandsRaiseOnlyTheirCodes : Prop :=
  ∀ (i : Instr) (s t : State), s.err = false → exec i s = .next t → t.err = true →
    t.ecode.toNat ∈ errorCodesOf i

/-- 30_encoding.md R92 and 70_reset_and_hazards.md R201: the completion of a command is a function of the state its row
of the table lists; two states that agree there get the same error, or the same values written.
Derived: parts of two rules. -/
def Obligations.CommandReadsOnlyItsOperands : Prop :=
  ∀ (i : Instr) (s t s' t' : State), agreeOnReads s t i → exec i s = .next s' → exec i t = .next t' →
    (∃ e, s' = s.errorCompletion e ∧ t' = t.errorCompletion e) ∨
    (s' = { s with w := s'.w, acc := s'.acc, res0 := s'.res0, res1 := s'.res1, busy := false, done := true } ∧
      t' = { t with w := t'.w, acc := t'.acc, res0 := t'.res0, res1 := t'.res1, busy := false, done := true } ∧
      agreeOnWrites s' t' i)

/-- 60_exceptions.md R175 and R176: every completion, successful or not, raises `irq` when `IE` is set and leaves it low
when it is not: at the engine's turn, of whatever word is pending (an illegal one too, R93, R94), and of every command
on its own.
Derived: parts of two rules; who moves next is the model's form, log entry 1. -/
def Obligations.CompletionRaisesInterrupt : Prop :=
  (∀ (s : State) (rest : List Event), s.engineNext rest → s.busy = true → s.rstN = true →
    ∃ t, step s = .next t ∧ t.done = true ∧ t.irq = s.ie) ∧
  ∀ (i : Instr) (s t : State), exec i s = .next t → t.irq = s.ie

/-! ## The register window -/

/-- The address map of 10_state.md R47 and 20_memory.md R71 is one-to-one on the named words, and every other offset of
the window is reserved.
Derived: parts of two rules. -/
def Obligations.AddressMapIsOneToOne : Prop :=
  (∀ l : Loc, locate l.offset = l) ∧
  ∀ a : Nat, a % 4 = 0 → a < 1024 →
    (locate a ≠ .reserved → (locate a).offset = a) ∧
    (locate a = .reserved ↔ (0x04C ≤ a ∧ a ≤ 0x05C) ∨ (0x080 ≤ a ∧ a ≤ 0x0FC) ∨ 0x200 ≤ a)

/-- A host read, 20_memory.md R72 with the map of R47 and the packing of R71: it changes no register, and returns the
constant of `ID`, the flags of `CTRL` and `STATUS` at their bits, the stored fields with zeros above, the four packed
weights, and 0 at a reserved offset. The data stands in the model's own field `lastRead` (log entry 4). -/
def Obligations.ReadReturnsRegister : Prop :=
  ∀ (s : State) (a : Nat) (rest : List Event), s.rstN = true → a % 4 = 0 → a < 1024 →
    s.agenda = .rd a :: rest →
    ∃ t, step s = .next t ∧ t = { s with agenda := rest, lastRead := t.lastRead } ∧
      (a = 0x000 → t.lastRead = 0x43574501) ∧
      (a = 0x004 → t.lastRead.toNat = (if s.ie then 1 else 0) + (if s.wtlock then 2 else 0)) ∧
      (a = 0x008 → t.lastRead.toNat = (if s.busy then 1 else 0) + (if s.done then 2 else 0) +
        (if s.err then 4 else 0) + (if s.fatal then 8 else 0) + (if s.wrign then 16 else 0) +
        256 * s.ecode.toNat) ∧
      (a = 0x00C → t.lastRead = s.cmd) ∧
      (a = 0x010 → t.lastRead = s.val) ∧
      (a = 0x014 → t.lastRead.toNat = s.n.toNat) ∧
      (a = 0x018 → t.lastRead.toNat = s.r.toNat) ∧
      (a = 0x01C → t.lastRead.toNat = s.elems.toNat) ∧
      (a = 0x020 → t.lastRead.toNat = s.maxw.toNat) ∧
      (a = 0x024 → t.lastRead.toNat = if s.xnn then 1 else 0) ∧
      (a = 0x028 → t.lastRead.toNat = s.row.toNat) ∧
      (a = 0x02C → t.lastRead.toNat = s.var.toNat) ∧
      (a = 0x030 → t.lastRead.toNat = s.sc.toNat) ∧
      (a = 0x034 → t.lastRead = s.dig0) ∧
      (a = 0x038 → t.lastRead.toNat = s.dig1.toNat) ∧
      (a = 0x03C → t.lastRead.toNat = s.len.toNat) ∧
      (a = 0x040 → t.lastRead = s.acc) ∧
      (a = 0x044 → t.lastRead = s.res0) ∧
      (a = 0x048 → t.lastRead = s.res1) ∧
      (∀ i : Fin 8, a = 0x060 + 4 * i.val → t.lastRead.toNat = (s.w[i.val]).toNat) ∧
      (∀ (r : Fin 32) (c : Fin 8), a = 0x100 + 8 * r.val + 4 * (c.val / 4) →
        t.lastRead.toNat / 256 ^ (c.val % 4) % 256 = (s.wt[r.val][c.val]).toNat) ∧
      (((0x04C ≤ a ∧ a ≤ 0x05C) ∨ (0x080 ≤ a ∧ a ≤ 0x0FC) ∨ 0x200 ≤ a) → t.lastRead = 0)

/-- 20_memory.md R82, 93 U15: an access that is not one whole aligned word of the window has no meaning, and is refused
under the name of what is wrong with it.
Derived: the order of the three names is the model's choice, log entry 7. -/
def Obligations.InexpressibleAccessIsRefused : Prop :=
  ∀ (s : State) (a bytes : Nat) (v : Word) (rest : List Event),
    (s.agenda = .read a bytes :: rest ∨ s.agenda = .write a bytes v :: rest) →
    (bytes ≠ 4 → step s = .refused .narrowAccess) ∧
    (bytes = 4 → a % 4 ≠ 0 → step s = .refused .misalignedAccess) ∧
    (bytes = 4 → a % 4 = 0 → 1024 ≤ a → step s = .refused .outsideWindow)

/-- A host write to an operand register, 20_memory.md R74 and 10_state.md R42: while busy it is discarded and sets
`WRIGN`; else the register holds exactly the field's bits of the word, whatever they are, and nothing else changes. -/
def Obligations.OperandWriteStoresField : Prop :=
  (∀ (s : State) (o : OperandReg) (v : Word) (rest : List Event), s.rstN = true →
    s.agenda = .wr o.offset v :: rest →
    (s.busy = true → step s = .next { s with agenda := rest, wrign := true }) ∧
    (s.busy = false →
      ∃ t, step s = .next t ∧ (t.readOperand o).toNat = v.toNat % 2 ^ o.bits ∧
        (∀ o', o' ≠ o → t.readOperand o' = s.readOperand o') ∧
        t.withOperandsOf s = { s with agenda := rest })) ∧
  ∀ (s : State) (i : Fin 8) (v : Word) (rest : List Event), s.rstN = true →
    s.agenda = .wr (0x060 + 4 * i.val) v :: rest →
    (s.busy = true → step s = .next { s with agenda := rest, wrign := true }) ∧
    (s.busy = false →
      ∃ t, step s = .next t ∧ (t.w[i.val]).toNat = v.toNat % 64 ∧
        (∀ (j : Nat) (hj : j < 8), j ≠ i.val → t.w[j] = s.w[j]) ∧
        t = { s with agenda := rest, w := t.w })

/-- A host write to `CTRL`, 20_memory.md R75: bit 31 makes the soft reset of 70 R192; else `IE` takes bit 0, a 1 in bit
1 sets `WTLOCK`, and nothing else changes, also while busy or fatal. -/
def Obligations.CtrlWriteFollowsRule : Prop :=
  ∀ (s : State) (v : Word) (rest : List Event), s.rstN = true → s.agenda = .wr 0x004 v :: rest →
    (v.getLsbD 31 = true → step s = .next (State.softReset { s with agenda := rest })) ∧
    (v.getLsbD 31 = false →
      step s = .next { s with agenda := rest, ie := v.getLsbD 0, wtlock := s.wtlock || v.getLsbD 1 })

/-- A host write to `STATUS`, 20_memory.md R76 and 60_exceptions.md R178: a 1 in bit 1 clears `DONE`, `ERR` and `ECODE`
together while the block is idle, and lowers `irq`; a 1 in bit 4 clears `WRIGN`; nothing else changes. -/
def Obligations.StatusWriteFollowsRule : Prop :=
  ∀ (s : State) (v : Word) (rest : List Event), s.rstN = true → s.agenda = .wr 0x008 v :: rest →
    ∃ t, step s = .next t ∧
      (v.getLsbD 1 = true → s.busy = false → t.done = false ∧ t.err = false ∧ t.ecode = 0 ∧ t.irq = false) ∧
      (v.getLsbD 1 = false ∨ s.busy = true → t.done = s.done ∧ t.err = s.err ∧ t.ecode = s.ecode) ∧
      (v.getLsbD 4 = true → t.wrign = false) ∧ (v.getLsbD 4 = false → t.wrign = s.wrign) ∧
      t = { s with agenda := rest, done := t.done, err := t.err, ecode := t.ecode, wrign := t.wrign }

/-- A host write to `CMD`, 20_memory.md R77: while fatal or busy it is discarded and sets `WRIGN`; else any word is
accepted. -/
def Obligations.CmdWriteFollowsRule : Prop :=
  ∀ (s : State) (v : Word) (rest : List Event), s.rstN = true → s.agenda = .wr 0x00C v :: rest →
    ((s.fatal = true ∨ s.busy = true) → step s = .next { s with agenda := rest, wrign := true }) ∧
    (s.fatal = false → s.busy = false →
      step s = .next { s with agenda := rest, cmd := v, busy := true, done := false, err := false, ecode := 0 })

/-- A host write to a word of `WT`, 20_memory.md R78 with the packing of R71: discarded with `WRIGN` while busy or
locked; else the four weights of the word are the bytes of the data, lane 0 the first column, and no other weight and
nothing else changes. -/
def Obligations.WeightWriteFollowsRule : Prop :=
  ∀ (s : State) (r : Fin 32) (h : Fin 2) (v : Word) (rest : List Event), s.rstN = true →
    s.agenda = .wr (0x100 + 8 * r.val + 4 * h.val) v :: rest →
    ((s.busy = true ∨ s.wtlock = true) → step s = .next { s with agenda := rest, wrign := true }) ∧
    (s.busy = false → s.wtlock = false →
      ∃ t, step s = .next t ∧
        (∀ (c : Nat) (hc : c < 8), c / 4 = h.val →
          (t.wt[r.val][c]).toNat = v.toNat / 256 ^ (c % 4) % 256) ∧
        (∀ (r' c : Nat) (hr : r' < 32) (hc : c < 8), r' ≠ r.val ∨ c / 4 ≠ h.val → t.wt[r'][c] = s.wt[r'][c]) ∧
        t = { s with agenda := rest, wt := t.wt })

/-- A host write to `ID`, `ACC`, `RES0`, `RES1` or a reserved offset, 20_memory.md R79: no effect on any register, and
`WRIGN` is not set. -/
def Obligations.ReadOnlyWriteHasNoEffect : Prop :=
  ∀ (s : State) (a : Nat) (v : Word) (rest : List Event), a % 4 = 0 → a < 1024 →
    s.agenda = .wr a v :: rest →
    (a = 0x000 ∨ (0x040 ≤ a ∧ a ≤ 0x05C) ∨ (0x080 ≤ a ∧ a ≤ 0x0FC) ∨ 0x200 ≤ a) →
    step s = .next { s with agenda := rest }

/-! ## Reset -/

/-- 10_state.md R47: read through the port, every register of the machine right after reset holds its reset value;
`WT` is left out, its contents being unspecified.
Derived: one part of the rule. -/
def Obligations.ResetStateReadsAsTable : Prop :=
  (∀ a : Nat, a % 4 = 0 → a < 1024 → ¬(0x100 ≤ a ∧ a < 0x200) →
    State.reset.readLoc (locate a) = if a = 0 then 0x43574501 else 0) ∧
  State.reset.irq = false

/-- 70_reset_and_hazards.md R192 and R193: a write of bit 31 of `CTRL` gives every register its reset value whatever
was pending, and keeps `WT` exactly as it is. -/
def Obligations.SoftResetClearsAllButTable : Prop :=
  ∀ (s : State) (v : Word) (rest : List Event), s.rstN = true → v.getLsbD 31 = true →
    s.agenda = .wr 0x004 v :: rest →
    step s = .next
      { ie := false, wtlock := false, busy := false, done := false, err := false, fatal := false, wrign := false,
        ecode := 0, cmd := 0, val := 0, n := 0, r := 0, elems := 0, maxw := 0, xnn := false, row := 0, var := 0,
        sc := 0, dig0 := 0, dig1 := 0, len := 0, w := Vector.replicate 8 0, acc := 0, res0 := 0, res1 := 0,
        wt := s.wt, rstN := s.rstN, wtDraw := s.wtDraw, agenda := rest, lastRead := s.lastRead }

/-- R191: driving `rst_n` low, and releasing it, leave every register at its reset value, `irq` low, and `WT` with
nothing said of it; while the pin is low a read returns the reset value and a write has no effect.
Derived: the form of the pin, and the reset at its release, are the model's, log entry 3. -/
def Obligations.HardResetClearsRegisters : Prop :=
  (∀ (s : State) (level : Bool) (rest : List Event), (level = false ∨ s.rstN = false) →
    s.agenda = .rstPin level :: rest →
    ∃ t, step s = .next t ∧ t.irq = false ∧
      t = { ie := false, wtlock := false, busy := false, done := false, err := false, fatal := false,
            wrign := false, ecode := 0, cmd := 0, val := 0, n := 0, r := 0, elems := 0, maxw := 0, xnn := false,
            row := 0, var := 0, sc := 0, dig0 := 0, dig1 := 0, len := 0, w := Vector.replicate 8 0, acc := 0,
            res0 := 0, res1 := 0, wt := t.wt, rstN := level, wtDraw := t.wtDraw, agenda := rest,
            lastRead := s.lastRead }) ∧
  (∀ (s : State) (a : Nat) (rest : List Event), s.rstN = false → a % 4 = 0 → a < 1024 →
    s.agenda = .rd a :: rest →
    ∃ t, step s = .next t ∧ t = { s with agenda := rest, lastRead := t.lastRead } ∧
      (¬(0x100 ≤ a ∧ a < 0x200) → t.lastRead = if a = 0 then 0x43574501 else 0)) ∧
  ∀ (s : State) (a : Nat) (v : Word) (rest : List Event), s.rstN = false → a % 4 = 0 → a < 1024 →
    s.agenda = .wr a v :: rest → step s = .next { s with agenda := rest }

/-! ## The whole machine -/

/-- The machine right after reset is consistent, not fatal, and idle (R39, R191).
Derived. -/
def Obligations.ResetStateIsConsistent : Prop :=
  State.reset.statusConsistent ∧ State.reset.notFatal ∧ State.reset.resetHeld ∧ State.reset.busy = false

/-- 10_state.md R39: `BUSY` and `DONE` are never both 1, `ERR = 1` implies `DONE = 1` and `ECODE != 0`, `ERR = 0`
implies `ECODE = 0`, and `ECODE` is at most 7: every step keeps it.
Derived: the spec's own inference ('`BUSY` and `DONE` are never both 1'). -/
def Obligations.StatusConsistencyIsKept : Prop :=
  ∀ s t : State, s.statusConsistent → step s = .next t → t.statusConsistent

/-- 40_combinatorics.md R120 and 60_exceptions.md R174: no step from any state sets `FATAL`, because no operands make
WIDTHS raise `E_INVARIANT`.
Derived: the spec's own inference ('A model may therefore prove `STATUS.FATAL = 0` as an invariant'). -/
def Obligations.FatalIsNeverSet : Prop :=
  ∀ s t : State, s.notFatal → step s = .next t → t.notFatal

/-- R174: while `FATAL = 1` no step but a reset clears it, and none accepts a command.
Derived: one part of the rule. -/
def Obligations.FatalLastsUntilReset : Prop :=
  ∀ s t : State, s.fatal = true → ¬s.resetNext → step s = .next t →
    t.fatal = true ∧ t.cmd = s.cmd ∧ (t.busy = true → s.busy = true)

/-- 70 R191: the registers stay at their reset values as long as `rst_n` is held low.
Derived: the form of the pin is the model's, log entry 3. -/
def Obligations.HeldResetIsKept : Prop :=
  ∀ s t : State, s.resetHeld → step s = .next t → t.resetHeld

/-- 10_state.md R45: while a command stays pending, what it will read cannot change, but for `WTLOCK`: a step that
begins and ends busy changes only `IE`, `WTLOCK`, `WRIGN` and the model's own fields.
Derived: the spec's own inference ('the operand registers, which cannot change while `BUSY = 1`'). -/
def Obligations.PendingOperandsAreFrozen : Prop :=
  ∀ s t : State, s.busy = true → step s = .next t → t.busy = true →
    t = { s with ie := t.ie, wtlock := t.wtlock, wrign := t.wrign, agenda := t.agenda, lastRead := t.lastRead }

/-- 10_state.md R43, who writes what, row by row, with the 'set by' and 'cleared by' columns of R39: outside a reset,
each register and each flag changes only by the writers of its row.
Derived: the spec's own inference (its table 'is complete'). -/
def Obligations.OnlyTheirWritersChangeRegisters : Prop :=
  ∀ s t : State, ¬s.resetNext → step s = .next t →
    -- VAL to LEN: a host write to that register while idle
    (s.busy = true → t.withOperandsOf s = t) ∧
    (∀ o, t.readOperand o ≠ s.readOperand o → s.busy = false ∧ ∃ v, s.hostWrites o.offset v) ∧
    -- W0 to W7: a host write to that entry while idle, or WIDTHS
    (∀ (i : Nat) (hi : i < 8), t.w[i] ≠ s.w[i] →
      (s.busy = false ∧ ∃ v, s.hostWrites (0x060 + 4 * i) v) ∨ s.completesAs .widths) ∧
    -- ACC, RES0, RES1: their commands
    (t.acc ≠ s.acc → s.completesAs .ckclr ∨ s.completesAs .ckmac) ∧
    ((t.res0 ≠ s.res0 ∨ t.res1 ≠ s.res1) →
      s.completesAs .comb ∨ s.completesAs .ckred ∨ s.completesAs .ckfin ∨ s.completesAs .gtincd ∨
        s.completesAs .gtinval) ∧
    -- only a successful completion writes W and the results: an error completion would set ERR and ECODE
    ((t.w ≠ s.w ∨ t.acc ≠ s.acc ∨ t.res0 ≠ s.res0 ∨ t.res1 ≠ s.res1) → t.err = s.err ∧ t.ecode = s.ecode) ∧
    -- CTRL: IE by any host write to CTRL; WTLOCK set only
    (t.ie ≠ s.ie → ∃ v, s.hostWrites 0x004 v ∧ t.ie = v.getLsbD 0) ∧
    (s.wtlock = true → t.wtlock = true) ∧
    (s.wtlock = false → t.wtlock = true → ∃ v, s.hostWrites 0x004 v ∧ v.getLsbD 1 = true) ∧
    -- STATUS.BUSY: set by the acceptance, cleared by every completion
    (s.busy = false → t.busy = true → s.fatal = false ∧ ∃ v, s.hostWrites 0x00C v ∧ t.cmd = v) ∧
    (s.busy = true → t.busy = false → s.completesNext) ∧
    (s.completesNext → t.busy = false ∧ t.done = true) ∧
    -- STATUS.DONE, ERR, ECODE: set by a completion, cleared together by a host write while idle
    (t.done ≠ s.done → (t.done = true ∧ s.completesNext) ∨ (t.done = false ∧ s.clearsDoneNext)) ∧
    (t.err ≠ s.err → (t.err = true ∧ s.completesNext) ∨ (t.err = false ∧ s.clearsDoneNext)) ∧
    (t.ecode ≠ s.ecode → (t.err = true ∧ s.completesNext) ∨ (t.ecode = 0 ∧ s.clearsDoneNext)) ∧
    (s.clearsDoneNext → t.done = false ∧ t.err = false ∧ t.ecode = 0) ∧
    -- STATUS.FATAL: set only, by an error completion with E_INVARIANT
    (t.fatal ≠ s.fatal → t.fatal = true ∧ t.ecode = 7 ∧ s.completesAs .widths) ∧
    -- STATUS.WRIGN: set by a discarded write, cleared by a host write of 1
    (s.wrign = false → t.wrign = true → s.discardsNext) ∧
    (s.wrign = true → t.wrign = false → ∃ v, s.hostWrites 0x008 v ∧ v.getLsbD 4 = true) ∧
    -- CMD: a host write while idle and not fatal
    (t.cmd ≠ s.cmd → s.busy = false ∧ s.fatal = false ∧ s.hostWrites 0x00C t.cmd) ∧
    -- WT: a host write to the weight's word while idle and unlocked
    (∀ (r c : Nat) (hr : r < 32) (hc : c < 8), t.wt[r][c] ≠ s.wt[r][c] →
      s.busy = false ∧ s.wtlock = false ∧ ∃ v, s.hostWrites (0x100 + 8 * r + 4 * (c / 4)) v) ∧
    -- ID: constant
    t.readLoc .id = s.readLoc .id

/-- 10_state.md R41 and 70 R197, over whole runs: once locked, the table keeps its contents and its lock as long as no
reset comes.
Derived: one part of the rule, over the runs of the model. -/
def Obligations.LockedTableNeverChanges : Prop :=
  ∀ (k : Nat) (s t : State), s.wtlock = true → (∀ ev ∈ s.agenda, eventIsReset ev = false) →
    Sys2Proof.core.run k s = .next t → t.wt = s.wt ∧ t.wtlock = true

/-- 60_exceptions.md R165 and 70 R200: a pending command completes, whatever accesses the host makes meanwhile, if none
is a reset: at the latest one step after the agenda is used up it is done, `CMD` still holding its word.
Derived: the engine's turn on an empty agenda is the model's form of fairness, log entry 1. -/
def Obligations.AcceptedCommandCompletes : Prop :=
  ∀ s : State, s.busy = true → s.rstN = true →
    (∀ ev ∈ s.agenda, ev.wellFormed = true ∧ eventIsReset ev = false) →
    ∃ k t, k ≤ s.agenda.length + 1 ∧ Sys2Proof.core.run k s = .next t ∧
      t.busy = false ∧ t.done = true ∧ t.cmd = s.cmd
end

