-- ==== Sys2Proof/Laws/State.lean ====
section
/-! SUPPORT. One lemma per field for each update of the state, true by `rfl`: no later proof unfolds a record update. -/

namespace Sys2Proof.Machine

/-! A discarded write sets `WRIGN` and nothing else (R39). -/

@[simp] theorem State.discardWrite_ie (s : State) : s.discardWrite.ie = s.ie := rfl
@[simp] theorem State.discardWrite_wtlock (s : State) : s.discardWrite.wtlock = s.wtlock := rfl
@[simp] theorem State.discardWrite_busy (s : State) : s.discardWrite.busy = s.busy := rfl
@[simp] theorem State.discardWrite_done (s : State) : s.discardWrite.done = s.done := rfl
@[simp] theorem State.discardWrite_err (s : State) : s.discardWrite.err = s.err := rfl
@[simp] theorem State.discardWrite_fatal (s : State) : s.discardWrite.fatal = s.fatal := rfl
@[simp] theorem State.discardWrite_wrign (s : State) : s.discardWrite.wrign = true := rfl
@[simp] theorem State.discardWrite_ecode (s : State) : s.discardWrite.ecode = s.ecode := rfl
@[simp] theorem State.discardWrite_cmd (s : State) : s.discardWrite.cmd = s.cmd := rfl
@[simp] theorem State.discardWrite_val (s : State) : s.discardWrite.val = s.val := rfl
@[simp] theorem State.discardWrite_n (s : State) : s.discardWrite.n = s.n := rfl
@[simp] theorem State.discardWrite_r (s : State) : s.discardWrite.r = s.r := rfl
@[simp] theorem State.discardWrite_elems (s : State) : s.discardWrite.elems = s.elems := rfl
@[simp] theorem State.discardWrite_maxw (s : State) : s.discardWrite.maxw = s.maxw := rfl
@[simp] theorem State.discardWrite_xnn (s : State) : s.discardWrite.xnn = s.xnn := rfl
@[simp] theorem State.discardWrite_row (s : State) : s.discardWrite.row = s.row := rfl
@[simp] theorem State.discardWrite_var (s : State) : s.discardWrite.var = s.var := rfl
@[simp] theorem State.discardWrite_sc (s : State) : s.discardWrite.sc = s.sc := rfl
@[simp] theorem State.discardWrite_dig0 (s : State) : s.discardWrite.dig0 = s.dig0 := rfl
@[simp] theorem State.discardWrite_dig1 (s : State) : s.discardWrite.dig1 = s.dig1 := rfl
@[simp] theorem State.discardWrite_len (s : State) : s.discardWrite.len = s.len := rfl
@[simp] theorem State.discardWrite_w (s : State) : s.discardWrite.w = s.w := rfl
@[simp] theorem State.discardWrite_acc (s : State) : s.discardWrite.acc = s.acc := rfl
@[simp] theorem State.discardWrite_res0 (s : State) : s.discardWrite.res0 = s.res0 := rfl
@[simp] theorem State.discardWrite_res1 (s : State) : s.discardWrite.res1 = s.res1 := rfl
@[simp] theorem State.discardWrite_wt (s : State) : s.discardWrite.wt = s.wt := rfl
@[simp] theorem State.discardWrite_rstN (s : State) : s.discardWrite.rstN = s.rstN := rfl
@[simp] theorem State.discardWrite_wtDraw (s : State) : s.discardWrite.wtDraw = s.wtDraw := rfl
@[simp] theorem State.discardWrite_agenda (s : State) : s.discardWrite.agenda = s.agenda := rfl
@[simp] theorem State.discardWrite_lastRead (s : State) : s.discardWrite.lastRead = s.lastRead := rfl

/-! Acceptance of a command word (R77). -/

@[simp] theorem State.acceptCommand_ie (s : State) (word : Word) : (s.acceptCommand word).ie = s.ie := rfl
@[simp] theorem State.acceptCommand_wtlock (s : State) (word : Word) :
    (s.acceptCommand word).wtlock = s.wtlock := rfl
@[simp] theorem State.acceptCommand_busy (s : State) (word : Word) : (s.acceptCommand word).busy = true := rfl
@[simp] theorem State.acceptCommand_done (s : State) (word : Word) : (s.acceptCommand word).done = false := rfl
@[simp] theorem State.acceptCommand_err (s : State) (word : Word) : (s.acceptCommand word).err = false := rfl
@[simp] theorem State.acceptCommand_fatal (s : State) (word : Word) : (s.acceptCommand word).fatal = s.fatal := rfl
@[simp] theorem State.acceptCommand_wrign (s : State) (word : Word) : (s.acceptCommand word).wrign = s.wrign := rfl
@[simp] theorem State.acceptCommand_ecode (s : State) (word : Word) : (s.acceptCommand word).ecode = 0 := rfl
@[simp] theorem State.acceptCommand_cmd (s : State) (word : Word) : (s.acceptCommand word).cmd = word := rfl
@[simp] theorem State.acceptCommand_val (s : State) (word : Word) : (s.acceptCommand word).val = s.val := rfl
@[simp] theorem State.acceptCommand_n (s : State) (word : Word) : (s.acceptCommand word).n = s.n := rfl
@[simp] theorem State.acceptCommand_r (s : State) (word : Word) : (s.acceptCommand word).r = s.r := rfl
@[simp] theorem State.acceptCommand_elems (s : State) (word : Word) : (s.acceptCommand word).elems = s.elems := rfl
@[simp] theorem State.acceptCommand_maxw (s : State) (word : Word) : (s.acceptCommand word).maxw = s.maxw := rfl
@[simp] theorem State.acceptCommand_xnn (s : State) (word : Word) : (s.acceptCommand word).xnn = s.xnn := rfl
@[simp] theorem State.acceptCommand_row (s : State) (word : Word) : (s.acceptCommand word).row = s.row := rfl
@[simp] theorem State.acceptCommand_var (s : State) (word : Word) : (s.acceptCommand word).var = s.var := rfl
@[simp] theorem State.acceptCommand_sc (s : State) (word : Word) : (s.acceptCommand word).sc = s.sc := rfl
@[simp] theorem State.acceptCommand_dig0 (s : State) (word : Word) : (s.acceptCommand word).dig0 = s.dig0 := rfl
@[simp] theorem State.acceptCommand_dig1 (s : State) (word : Word) : (s.acceptCommand word).dig1 = s.dig1 := rfl
@[simp] theorem State.acceptCommand_len (s : State) (word : Word) : (s.acceptCommand word).len = s.len := rfl
@[simp] theorem State.acceptCommand_w (s : State) (word : Word) : (s.acceptCommand word).w = s.w := rfl
@[simp] theorem State.acceptCommand_acc (s : State) (word : Word) : (s.acceptCommand word).acc = s.acc := rfl
@[simp] theorem State.acceptCommand_res0 (s : State) (word : Word) : (s.acceptCommand word).res0 = s.res0 := rfl
@[simp] theorem State.acceptCommand_res1 (s : State) (word : Word) : (s.acceptCommand word).res1 = s.res1 := rfl
@[simp] theorem State.acceptCommand_wt (s : State) (word : Word) : (s.acceptCommand word).wt = s.wt := rfl
@[simp] theorem State.acceptCommand_rstN (s : State) (word : Word) : (s.acceptCommand word).rstN = s.rstN := rfl
@[simp] theorem State.acceptCommand_wtDraw (s : State) (word : Word) :
    (s.acceptCommand word).wtDraw = s.wtDraw := rfl
@[simp] theorem State.acceptCommand_agenda (s : State) (word : Word) :
    (s.acceptCommand word).agenda = s.agenda := rfl
@[simp] theorem State.acceptCommand_lastRead (s : State) (word : Word) :
    (s.acceptCommand word).lastRead = s.lastRead := rfl

/-! Successful completion (R166). -/

@[simp] theorem State.successCompletion_ie (s : State) : s.successCompletion.ie = s.ie := rfl
@[simp] theorem State.successCompletion_wtlock (s : State) : s.successCompletion.wtlock = s.wtlock := rfl
@[simp] theorem State.successCompletion_busy (s : State) : s.successCompletion.busy = false := rfl
@[simp] theorem State.successCompletion_done (s : State) : s.successCompletion.done = true := rfl
@[simp] theorem State.successCompletion_err (s : State) : s.successCompletion.err = s.err := rfl
@[simp] theorem State.successCompletion_fatal (s : State) : s.successCompletion.fatal = s.fatal := rfl
@[simp] theorem State.successCompletion_wrign (s : State) : s.successCompletion.wrign = s.wrign := rfl
@[simp] theorem State.successCompletion_ecode (s : State) : s.successCompletion.ecode = s.ecode := rfl
@[simp] theorem State.successCompletion_cmd (s : State) : s.successCompletion.cmd = s.cmd := rfl
@[simp] theorem State.successCompletion_val (s : State) : s.successCompletion.val = s.val := rfl
@[simp] theorem State.successCompletion_n (s : State) : s.successCompletion.n = s.n := rfl
@[simp] theorem State.successCompletion_r (s : State) : s.successCompletion.r = s.r := rfl
@[simp] theorem State.successCompletion_elems (s : State) : s.successCompletion.elems = s.elems := rfl
@[simp] theorem State.successCompletion_maxw (s : State) : s.successCompletion.maxw = s.maxw := rfl
@[simp] theorem State.successCompletion_xnn (s : State) : s.successCompletion.xnn = s.xnn := rfl
@[simp] theorem State.successCompletion_row (s : State) : s.successCompletion.row = s.row := rfl
@[simp] theorem State.successCompletion_var (s : State) : s.successCompletion.var = s.var := rfl
@[simp] theorem State.successCompletion_sc (s : State) : s.successCompletion.sc = s.sc := rfl
@[simp] theorem State.successCompletion_dig0 (s : State) : s.successCompletion.dig0 = s.dig0 := rfl
@[simp] theorem State.successCompletion_dig1 (s : State) : s.successCompletion.dig1 = s.dig1 := rfl
@[simp] theorem State.successCompletion_len (s : State) : s.successCompletion.len = s.len := rfl
@[simp] theorem State.successCompletion_w (s : State) : s.successCompletion.w = s.w := rfl
@[simp] theorem State.successCompletion_acc (s : State) : s.successCompletion.acc = s.acc := rfl
@[simp] theorem State.successCompletion_res0 (s : State) : s.successCompletion.res0 = s.res0 := rfl
@[simp] theorem State.successCompletion_res1 (s : State) : s.successCompletion.res1 = s.res1 := rfl
@[simp] theorem State.successCompletion_wt (s : State) : s.successCompletion.wt = s.wt := rfl
@[simp] theorem State.successCompletion_rstN (s : State) : s.successCompletion.rstN = s.rstN := rfl
@[simp] theorem State.successCompletion_wtDraw (s : State) : s.successCompletion.wtDraw = s.wtDraw := rfl
@[simp] theorem State.successCompletion_agenda (s : State) : s.successCompletion.agenda = s.agenda := rfl
@[simp] theorem State.successCompletion_lastRead (s : State) : s.successCompletion.lastRead = s.lastRead := rfl

/-! Error completion (R167). -/

@[simp] theorem State.errorCompletion_ie (s : State) (e : ErrorCode) : (s.errorCompletion e).ie = s.ie := rfl
@[simp] theorem State.errorCompletion_wtlock (s : State) (e : ErrorCode) :
    (s.errorCompletion e).wtlock = s.wtlock := rfl
@[simp] theorem State.errorCompletion_busy (s : State) (e : ErrorCode) : (s.errorCompletion e).busy = false := rfl
@[simp] theorem State.errorCompletion_done (s : State) (e : ErrorCode) : (s.errorCompletion e).done = true := rfl
@[simp] theorem State.errorCompletion_err (s : State) (e : ErrorCode) : (s.errorCompletion e).err = true := rfl
@[simp] theorem State.errorCompletion_fatal (s : State) (e : ErrorCode) :
    (s.errorCompletion e).fatal = (s.fatal || e == .eInvariant) := rfl
@[simp] theorem State.errorCompletion_wrign (s : State) (e : ErrorCode) :
    (s.errorCompletion e).wrign = s.wrign := rfl
@[simp] theorem State.errorCompletion_ecode (s : State) (e : ErrorCode) :
    (s.errorCompletion e).ecode = e.code := rfl
@[simp] theorem State.errorCompletion_cmd (s : State) (e : ErrorCode) : (s.errorCompletion e).cmd = s.cmd := rfl
@[simp] theorem State.errorCompletion_val (s : State) (e : ErrorCode) : (s.errorCompletion e).val = s.val := rfl
@[simp] theorem State.errorCompletion_n (s : State) (e : ErrorCode) : (s.errorCompletion e).n = s.n := rfl
@[simp] theorem State.errorCompletion_r (s : State) (e : ErrorCode) : (s.errorCompletion e).r = s.r := rfl
@[simp] theorem State.errorCompletion_elems (s : State) (e : ErrorCode) :
    (s.errorCompletion e).elems = s.elems := rfl
@[simp] theorem State.errorCompletion_maxw (s : State) (e : ErrorCode) : (s.errorCompletion e).maxw = s.maxw := rfl
@[simp] theorem State.errorCompletion_xnn (s : State) (e : ErrorCode) : (s.errorCompletion e).xnn = s.xnn := rfl
@[simp] theorem State.errorCompletion_row (s : State) (e : ErrorCode) : (s.errorCompletion e).row = s.row := rfl
@[simp] theorem State.errorCompletion_var (s : State) (e : ErrorCode) : (s.errorCompletion e).var = s.var := rfl
@[simp] theorem State.errorCompletion_sc (s : State) (e : ErrorCode) : (s.errorCompletion e).sc = s.sc := rfl
@[simp] theorem State.errorCompletion_dig0 (s : State) (e : ErrorCode) : (s.errorCompletion e).dig0 = s.dig0 := rfl
@[simp] theorem State.errorCompletion_dig1 (s : State) (e : ErrorCode) : (s.errorCompletion e).dig1 = s.dig1 := rfl
@[simp] theorem State.errorCompletion_len (s : State) (e : ErrorCode) : (s.errorCompletion e).len = s.len := rfl
@[simp] theorem State.errorCompletion_w (s : State) (e : ErrorCode) : (s.errorCompletion e).w = s.w := rfl
@[simp] theorem State.errorCompletion_acc (s : State) (e : ErrorCode) : (s.errorCompletion e).acc = s.acc := rfl
@[simp] theorem State.errorCompletion_res0 (s : State) (e : ErrorCode) : (s.errorCompletion e).res0 = s.res0 := rfl
@[simp] theorem State.errorCompletion_res1 (s : State) (e : ErrorCode) : (s.errorCompletion e).res1 = s.res1 := rfl
@[simp] theorem State.errorCompletion_wt (s : State) (e : ErrorCode) : (s.errorCompletion e).wt = s.wt := rfl
@[simp] theorem State.errorCompletion_rstN (s : State) (e : ErrorCode) : (s.errorCompletion e).rstN = s.rstN := rfl
@[simp] theorem State.errorCompletion_wtDraw (s : State) (e : ErrorCode) :
    (s.errorCompletion e).wtDraw = s.wtDraw := rfl
@[simp] theorem State.errorCompletion_agenda (s : State) (e : ErrorCode) :
    (s.errorCompletion e).agenda = s.agenda := rfl
@[simp] theorem State.errorCompletion_lastRead (s : State) (e : ErrorCode) :
    (s.errorCompletion e).lastRead = s.lastRead := rfl

/-! Acknowledgement (R178). -/

@[simp] theorem State.acknowledge_ie (s : State) : s.acknowledge.ie = s.ie := rfl
@[simp] theorem State.acknowledge_wtlock (s : State) : s.acknowledge.wtlock = s.wtlock := rfl
@[simp] theorem State.acknowledge_busy (s : State) : s.acknowledge.busy = s.busy := rfl
@[simp] theorem State.acknowledge_done (s : State) : s.acknowledge.done = false := rfl
@[simp] theorem State.acknowledge_err (s : State) : s.acknowledge.err = false := rfl
@[simp] theorem State.acknowledge_fatal (s : State) : s.acknowledge.fatal = s.fatal := rfl
@[simp] theorem State.acknowledge_wrign (s : State) : s.acknowledge.wrign = s.wrign := rfl
@[simp] theorem State.acknowledge_ecode (s : State) : s.acknowledge.ecode = 0 := rfl
@[simp] theorem State.acknowledge_cmd (s : State) : s.acknowledge.cmd = s.cmd := rfl
@[simp] theorem State.acknowledge_val (s : State) : s.acknowledge.val = s.val := rfl
@[simp] theorem State.acknowledge_n (s : State) : s.acknowledge.n = s.n := rfl
@[simp] theorem State.acknowledge_r (s : State) : s.acknowledge.r = s.r := rfl
@[simp] theorem State.acknowledge_elems (s : State) : s.acknowledge.elems = s.elems := rfl
@[simp] theorem State.acknowledge_maxw (s : State) : s.acknowledge.maxw = s.maxw := rfl
@[simp] theorem State.acknowledge_xnn (s : State) : s.acknowledge.xnn = s.xnn := rfl
@[simp] theorem State.acknowledge_row (s : State) : s.acknowledge.row = s.row := rfl
@[simp] theorem State.acknowledge_var (s : State) : s.acknowledge.var = s.var := rfl
@[simp] theorem State.acknowledge_sc (s : State) : s.acknowledge.sc = s.sc := rfl
@[simp] theorem State.acknowledge_dig0 (s : State) : s.acknowledge.dig0 = s.dig0 := rfl
@[simp] theorem State.acknowledge_dig1 (s : State) : s.acknowledge.dig1 = s.dig1 := rfl
@[simp] theorem State.acknowledge_len (s : State) : s.acknowledge.len = s.len := rfl
@[simp] theorem State.acknowledge_w (s : State) : s.acknowledge.w = s.w := rfl
@[simp] theorem State.acknowledge_acc (s : State) : s.acknowledge.acc = s.acc := rfl
@[simp] theorem State.acknowledge_res0 (s : State) : s.acknowledge.res0 = s.res0 := rfl
@[simp] theorem State.acknowledge_res1 (s : State) : s.acknowledge.res1 = s.res1 := rfl
@[simp] theorem State.acknowledge_wt (s : State) : s.acknowledge.wt = s.wt := rfl
@[simp] theorem State.acknowledge_rstN (s : State) : s.acknowledge.rstN = s.rstN := rfl
@[simp] theorem State.acknowledge_wtDraw (s : State) : s.acknowledge.wtDraw = s.wtDraw := rfl
@[simp] theorem State.acknowledge_agenda (s : State) : s.acknowledge.agenda = s.agenda := rfl
@[simp] theorem State.acknowledge_lastRead (s : State) : s.acknowledge.lastRead = s.lastRead := rfl

/-! Soft reset (R192). -/

@[simp] theorem State.softReset_ie (s : State) : s.softReset.ie = false := rfl
@[simp] theorem State.softReset_wtlock (s : State) : s.softReset.wtlock = false := rfl
@[simp] theorem State.softReset_busy (s : State) : s.softReset.busy = false := rfl
@[simp] theorem State.softReset_done (s : State) : s.softReset.done = false := rfl
@[simp] theorem State.softReset_err (s : State) : s.softReset.err = false := rfl
@[simp] theorem State.softReset_fatal (s : State) : s.softReset.fatal = false := rfl
@[simp] theorem State.softReset_wrign (s : State) : s.softReset.wrign = false := rfl
@[simp] theorem State.softReset_ecode (s : State) : s.softReset.ecode = 0 := rfl
@[simp] theorem State.softReset_cmd (s : State) : s.softReset.cmd = 0 := rfl
@[simp] theorem State.softReset_val (s : State) : s.softReset.val = 0 := rfl
@[simp] theorem State.softReset_n (s : State) : s.softReset.n = 0 := rfl
@[simp] theorem State.softReset_r (s : State) : s.softReset.r = 0 := rfl
@[simp] theorem State.softReset_elems (s : State) : s.softReset.elems = 0 := rfl
@[simp] theorem State.softReset_maxw (s : State) : s.softReset.maxw = 0 := rfl
@[simp] theorem State.softReset_xnn (s : State) : s.softReset.xnn = false := rfl
@[simp] theorem State.softReset_row (s : State) : s.softReset.row = 0 := rfl
@[simp] theorem State.softReset_var (s : State) : s.softReset.var = 0 := rfl
@[simp] theorem State.softReset_sc (s : State) : s.softReset.sc = 0 := rfl
@[simp] theorem State.softReset_dig0 (s : State) : s.softReset.dig0 = 0 := rfl
@[simp] theorem State.softReset_dig1 (s : State) : s.softReset.dig1 = 0 := rfl
@[simp] theorem State.softReset_len (s : State) : s.softReset.len = 0 := rfl
@[simp] theorem State.softReset_w (s : State) : s.softReset.w = Vector.replicate 8 0 := rfl
@[simp] theorem State.softReset_acc (s : State) : s.softReset.acc = 0 := rfl
@[simp] theorem State.softReset_res0 (s : State) : s.softReset.res0 = 0 := rfl
@[simp] theorem State.softReset_res1 (s : State) : s.softReset.res1 = 0 := rfl
@[simp] theorem State.softReset_wt (s : State) : s.softReset.wt = s.wt := rfl
@[simp] theorem State.softReset_rstN (s : State) : s.softReset.rstN = s.rstN := rfl
@[simp] theorem State.softReset_wtDraw (s : State) : s.softReset.wtDraw = s.wtDraw := rfl
@[simp] theorem State.softReset_agenda (s : State) : s.softReset.agenda = s.agenda := rfl
@[simp] theorem State.softReset_lastRead (s : State) : s.softReset.lastRead = s.lastRead := rfl

/-! Hard reset (R191). -/

@[simp] theorem State.hardReset_ie (s : State) : s.hardReset.ie = false := rfl
@[simp] theorem State.hardReset_wtlock (s : State) : s.hardReset.wtlock = false := rfl
@[simp] theorem State.hardReset_busy (s : State) : s.hardReset.busy = false := rfl
@[simp] theorem State.hardReset_done (s : State) : s.hardReset.done = false := rfl
@[simp] theorem State.hardReset_err (s : State) : s.hardReset.err = false := rfl
@[simp] theorem State.hardReset_fatal (s : State) : s.hardReset.fatal = false := rfl
@[simp] theorem State.hardReset_wrign (s : State) : s.hardReset.wrign = false := rfl
@[simp] theorem State.hardReset_ecode (s : State) : s.hardReset.ecode = 0 := rfl
@[simp] theorem State.hardReset_cmd (s : State) : s.hardReset.cmd = 0 := rfl
@[simp] theorem State.hardReset_val (s : State) : s.hardReset.val = 0 := rfl
@[simp] theorem State.hardReset_n (s : State) : s.hardReset.n = 0 := rfl
@[simp] theorem State.hardReset_r (s : State) : s.hardReset.r = 0 := rfl
@[simp] theorem State.hardReset_elems (s : State) : s.hardReset.elems = 0 := rfl
@[simp] theorem State.hardReset_maxw (s : State) : s.hardReset.maxw = 0 := rfl
@[simp] theorem State.hardReset_xnn (s : State) : s.hardReset.xnn = false := rfl
@[simp] theorem State.hardReset_row (s : State) : s.hardReset.row = 0 := rfl
@[simp] theorem State.hardReset_var (s : State) : s.hardReset.var = 0 := rfl
@[simp] theorem State.hardReset_sc (s : State) : s.hardReset.sc = 0 := rfl
@[simp] theorem State.hardReset_dig0 (s : State) : s.hardReset.dig0 = 0 := rfl
@[simp] theorem State.hardReset_dig1 (s : State) : s.hardReset.dig1 = 0 := rfl
@[simp] theorem State.hardReset_len (s : State) : s.hardReset.len = 0 := rfl
@[simp] theorem State.hardReset_w (s : State) : s.hardReset.w = Vector.replicate 8 0 := rfl
@[simp] theorem State.hardReset_acc (s : State) : s.hardReset.acc = 0 := rfl
@[simp] theorem State.hardReset_res0 (s : State) : s.hardReset.res0 = 0 := rfl
@[simp] theorem State.hardReset_res1 (s : State) : s.hardReset.res1 = 0 := rfl
@[simp] theorem State.hardReset_wt (s : State) : s.hardReset.wt = drawnTable (s.wtDraw + 1) := rfl
@[simp] theorem State.hardReset_rstN (s : State) : s.hardReset.rstN = s.rstN := rfl
@[simp] theorem State.hardReset_wtDraw (s : State) : s.hardReset.wtDraw = s.wtDraw + 1 := rfl
@[simp] theorem State.hardReset_agenda (s : State) : s.hardReset.agenda = s.agenda := rfl
@[simp] theorem State.hardReset_lastRead (s : State) : s.hardReset.lastRead = s.lastRead := rfl

/-! The writes of WIDTHS (R120). -/

@[simp] theorem State.setWidths_ie (s : State) (out : List Nat) : (s.setWidths out).ie = s.ie := rfl
@[simp] theorem State.setWidths_wtlock (s : State) (out : List Nat) : (s.setWidths out).wtlock = s.wtlock := rfl
@[simp] theorem State.setWidths_busy (s : State) (out : List Nat) : (s.setWidths out).busy = s.busy := rfl
@[simp] theorem State.setWidths_done (s : State) (out : List Nat) : (s.setWidths out).done = s.done := rfl
@[simp] theorem State.setWidths_err (s : State) (out : List Nat) : (s.setWidths out).err = s.err := rfl
@[simp] theorem State.setWidths_fatal (s : State) (out : List Nat) : (s.setWidths out).fatal = s.fatal := rfl
@[simp] theorem State.setWidths_wrign (s : State) (out : List Nat) : (s.setWidths out).wrign = s.wrign := rfl
@[simp] theorem State.setWidths_ecode (s : State) (out : List Nat) : (s.setWidths out).ecode = s.ecode := rfl
@[simp] theorem State.setWidths_cmd (s : State) (out : List Nat) : (s.setWidths out).cmd = s.cmd := rfl
@[simp] theorem State.setWidths_val (s : State) (out : List Nat) : (s.setWidths out).val = s.val := rfl
@[simp] theorem State.setWidths_n (s : State) (out : List Nat) : (s.setWidths out).n = s.n := rfl
@[simp] theorem State.setWidths_r (s : State) (out : List Nat) : (s.setWidths out).r = s.r := rfl
@[simp] theorem State.setWidths_elems (s : State) (out : List Nat) : (s.setWidths out).elems = s.elems := rfl
@[simp] theorem State.setWidths_maxw (s : State) (out : List Nat) : (s.setWidths out).maxw = s.maxw := rfl
@[simp] theorem State.setWidths_xnn (s : State) (out : List Nat) : (s.setWidths out).xnn = s.xnn := rfl
@[simp] theorem State.setWidths_row (s : State) (out : List Nat) : (s.setWidths out).row = s.row := rfl
@[simp] theorem State.setWidths_var (s : State) (out : List Nat) : (s.setWidths out).var = s.var := rfl
@[simp] theorem State.setWidths_sc (s : State) (out : List Nat) : (s.setWidths out).sc = s.sc := rfl
@[simp] theorem State.setWidths_dig0 (s : State) (out : List Nat) : (s.setWidths out).dig0 = s.dig0 := rfl
@[simp] theorem State.setWidths_dig1 (s : State) (out : List Nat) : (s.setWidths out).dig1 = s.dig1 := rfl
@[simp] theorem State.setWidths_len (s : State) (out : List Nat) : (s.setWidths out).len = s.len := rfl
@[simp] theorem State.setWidths_w (s : State) (out : List Nat) :
    (s.setWidths out).w = Vector.ofFn fun i => BitVec.ofNat 6 (out.getD i.val 0) := rfl
@[simp] theorem State.setWidths_acc (s : State) (out : List Nat) : (s.setWidths out).acc = s.acc := rfl
@[simp] theorem State.setWidths_res0 (s : State) (out : List Nat) : (s.setWidths out).res0 = s.res0 := rfl
@[simp] theorem State.setWidths_res1 (s : State) (out : List Nat) : (s.setWidths out).res1 = s.res1 := rfl
@[simp] theorem State.setWidths_wt (s : State) (out : List Nat) : (s.setWidths out).wt = s.wt := rfl
@[simp] theorem State.setWidths_rstN (s : State) (out : List Nat) : (s.setWidths out).rstN = s.rstN := rfl
@[simp] theorem State.setWidths_wtDraw (s : State) (out : List Nat) : (s.setWidths out).wtDraw = s.wtDraw := rfl
@[simp] theorem State.setWidths_agenda (s : State) (out : List Nat) : (s.setWidths out).agenda = s.agenda := rfl
@[simp] theorem State.setWidths_lastRead (s : State) (out : List Nat) :
    (s.setWidths out).lastRead = s.lastRead := rfl

/-! The writes of the result registers (R35, R36). -/

@[simp] theorem State.setResults_ie (s : State) (x y : Nat) : (s.setResults x y).ie = s.ie := rfl
@[simp] theorem State.setResults_wtlock (s : State) (x y : Nat) : (s.setResults x y).wtlock = s.wtlock := rfl
@[simp] theorem State.setResults_busy (s : State) (x y : Nat) : (s.setResults x y).busy = s.busy := rfl
@[simp] theorem State.setResults_done (s : State) (x y : Nat) : (s.setResults x y).done = s.done := rfl
@[simp] theorem State.setResults_err (s : State) (x y : Nat) : (s.setResults x y).err = s.err := rfl
@[simp] theorem State.setResults_fatal (s : State) (x y : Nat) : (s.setResults x y).fatal = s.fatal := rfl
@[simp] theorem State.setResults_wrign (s : State) (x y : Nat) : (s.setResults x y).wrign = s.wrign := rfl
@[simp] theorem State.setResults_ecode (s : State) (x y : Nat) : (s.setResults x y).ecode = s.ecode := rfl
@[simp] theorem State.setResults_cmd (s : State) (x y : Nat) : (s.setResults x y).cmd = s.cmd := rfl
@[simp] theorem State.setResults_val (s : State) (x y : Nat) : (s.setResults x y).val = s.val := rfl
@[simp] theorem State.setResults_n (s : State) (x y : Nat) : (s.setResults x y).n = s.n := rfl
@[simp] theorem State.setResults_r (s : State) (x y : Nat) : (s.setResults x y).r = s.r := rfl
@[simp] theorem State.setResults_elems (s : State) (x y : Nat) : (s.setResults x y).elems = s.elems := rfl
@[simp] theorem State.setResults_maxw (s : State) (x y : Nat) : (s.setResults x y).maxw = s.maxw := rfl
@[simp] theorem State.setResults_xnn (s : State) (x y : Nat) : (s.setResults x y).xnn = s.xnn := rfl
@[simp] theorem State.setResults_row (s : State) (x y : Nat) : (s.setResults x y).row = s.row := rfl
@[simp] theorem State.setResults_var (s : State) (x y : Nat) : (s.setResults x y).var = s.var := rfl
@[simp] theorem State.setResults_sc (s : State) (x y : Nat) : (s.setResults x y).sc = s.sc := rfl
@[simp] theorem State.setResults_dig0 (s : State) (x y : Nat) : (s.setResults x y).dig0 = s.dig0 := rfl
@[simp] theorem State.setResults_dig1 (s : State) (x y : Nat) : (s.setResults x y).dig1 = s.dig1 := rfl
@[simp] theorem State.setResults_len (s : State) (x y : Nat) : (s.setResults x y).len = s.len := rfl
@[simp] theorem State.setResults_w (s : State) (x y : Nat) : (s.setResults x y).w = s.w := rfl
@[simp] theorem State.setResults_acc (s : State) (x y : Nat) : (s.setResults x y).acc = s.acc := rfl
@[simp] theorem State.setResults_res0 (s : State) (x y : Nat) : (s.setResults x y).res0 = BitVec.ofNat 32 x := rfl
@[simp] theorem State.setResults_res1 (s : State) (x y : Nat) : (s.setResults x y).res1 = BitVec.ofNat 32 y := rfl
@[simp] theorem State.setResults_wt (s : State) (x y : Nat) : (s.setResults x y).wt = s.wt := rfl
@[simp] theorem State.setResults_rstN (s : State) (x y : Nat) : (s.setResults x y).rstN = s.rstN := rfl
@[simp] theorem State.setResults_wtDraw (s : State) (x y : Nat) : (s.setResults x y).wtDraw = s.wtDraw := rfl
@[simp] theorem State.setResults_agenda (s : State) (x y : Nat) : (s.setResults x y).agenda = s.agenda := rfl
@[simp] theorem State.setResults_lastRead (s : State) (x y : Nat) : (s.setResults x y).lastRead = s.lastRead := rfl

/-! The write of `ACC` (R34). -/

@[simp] theorem State.setAcc_ie (s : State) (x : Nat) : (s.setAcc x).ie = s.ie := rfl
@[simp] theorem State.setAcc_wtlock (s : State) (x : Nat) : (s.setAcc x).wtlock = s.wtlock := rfl
@[simp] theorem State.setAcc_busy (s : State) (x : Nat) : (s.setAcc x).busy = s.busy := rfl
@[simp] theorem State.setAcc_done (s : State) (x : Nat) : (s.setAcc x).done = s.done := rfl
@[simp] theorem State.setAcc_err (s : State) (x : Nat) : (s.setAcc x).err = s.err := rfl
@[simp] theorem State.setAcc_fatal (s : State) (x : Nat) : (s.setAcc x).fatal = s.fatal := rfl
@[simp] theorem State.setAcc_wrign (s : State) (x : Nat) : (s.setAcc x).wrign = s.wrign := rfl
@[simp] theorem State.setAcc_ecode (s : State) (x : Nat) : (s.setAcc x).ecode = s.ecode := rfl
@[simp] theorem State.setAcc_cmd (s : State) (x : Nat) : (s.setAcc x).cmd = s.cmd := rfl
@[simp] theorem State.setAcc_val (s : State) (x : Nat) : (s.setAcc x).val = s.val := rfl
@[simp] theorem State.setAcc_n (s : State) (x : Nat) : (s.setAcc x).n = s.n := rfl
@[simp] theorem State.setAcc_r (s : State) (x : Nat) : (s.setAcc x).r = s.r := rfl
@[simp] theorem State.setAcc_elems (s : State) (x : Nat) : (s.setAcc x).elems = s.elems := rfl
@[simp] theorem State.setAcc_maxw (s : State) (x : Nat) : (s.setAcc x).maxw = s.maxw := rfl
@[simp] theorem State.setAcc_xnn (s : State) (x : Nat) : (s.setAcc x).xnn = s.xnn := rfl
@[simp] theorem State.setAcc_row (s : State) (x : Nat) : (s.setAcc x).row = s.row := rfl
@[simp] theorem State.setAcc_var (s : State) (x : Nat) : (s.setAcc x).var = s.var := rfl
@[simp] theorem State.setAcc_sc (s : State) (x : Nat) : (s.setAcc x).sc = s.sc := rfl
@[simp] theorem State.setAcc_dig0 (s : State) (x : Nat) : (s.setAcc x).dig0 = s.dig0 := rfl
@[simp] theorem State.setAcc_dig1 (s : State) (x : Nat) : (s.setAcc x).dig1 = s.dig1 := rfl
@[simp] theorem State.setAcc_len (s : State) (x : Nat) : (s.setAcc x).len = s.len := rfl
@[simp] theorem State.setAcc_w (s : State) (x : Nat) : (s.setAcc x).w = s.w := rfl
@[simp] theorem State.setAcc_acc (s : State) (x : Nat) : (s.setAcc x).acc = BitVec.ofNat 32 x := rfl
@[simp] theorem State.setAcc_res0 (s : State) (x : Nat) : (s.setAcc x).res0 = s.res0 := rfl
@[simp] theorem State.setAcc_res1 (s : State) (x : Nat) : (s.setAcc x).res1 = s.res1 := rfl
@[simp] theorem State.setAcc_wt (s : State) (x : Nat) : (s.setAcc x).wt = s.wt := rfl
@[simp] theorem State.setAcc_rstN (s : State) (x : Nat) : (s.setAcc x).rstN = s.rstN := rfl
@[simp] theorem State.setAcc_wtDraw (s : State) (x : Nat) : (s.setAcc x).wtDraw = s.wtDraw := rfl
@[simp] theorem State.setAcc_agenda (s : State) (x : Nat) : (s.setAcc x).agenda = s.agenda := rfl
@[simp] theorem State.setAcc_lastRead (s : State) (x : Nat) : (s.setAcc x).lastRead = s.lastRead := rfl

/-! A host write of one entry of `W` (R74). -/

@[simp] theorem State.setWidth_ie (s : State) (i : Fin 8) (v : Word) : (s.setWidth i v).ie = s.ie := rfl
@[simp] theorem State.setWidth_wtlock (s : State) (i : Fin 8) (v : Word) :
    (s.setWidth i v).wtlock = s.wtlock := rfl
@[simp] theorem State.setWidth_busy (s : State) (i : Fin 8) (v : Word) : (s.setWidth i v).busy = s.busy := rfl
@[simp] theorem State.setWidth_done (s : State) (i : Fin 8) (v : Word) : (s.setWidth i v).done = s.done := rfl
@[simp] theorem State.setWidth_err (s : State) (i : Fin 8) (v : Word) : (s.setWidth i v).err = s.err := rfl
@[simp] theorem State.setWidth_fatal (s : State) (i : Fin 8) (v : Word) : (s.setWidth i v).fatal = s.fatal := rfl
@[simp] theorem State.setWidth_wrign (s : State) (i : Fin 8) (v : Word) : (s.setWidth i v).wrign = s.wrign := rfl
@[simp] theorem State.setWidth_ecode (s : State) (i : Fin 8) (v : Word) : (s.setWidth i v).ecode = s.ecode := rfl
@[simp] theorem State.setWidth_cmd (s : State) (i : Fin 8) (v : Word) : (s.setWidth i v).cmd = s.cmd := rfl
@[simp] theorem State.setWidth_val (s : State) (i : Fin 8) (v : Word) : (s.setWidth i v).val = s.val := rfl
@[simp] theorem State.setWidth_n (s : State) (i : Fin 8) (v : Word) : (s.setWidth i v).n = s.n := rfl
@[simp] theorem State.setWidth_r (s : State) (i : Fin 8) (v : Word) : (s.setWidth i v).r = s.r := rfl
@[simp] theorem State.setWidth_elems (s : State) (i : Fin 8) (v : Word) : (s.setWidth i v).elems = s.elems := rfl
@[simp] theorem State.setWidth_maxw (s : State) (i : Fin 8) (v : Word) : (s.setWidth i v).maxw = s.maxw := rfl
@[simp] theorem State.setWidth_xnn (s : State) (i : Fin 8) (v : Word) : (s.setWidth i v).xnn = s.xnn := rfl
@[simp] theorem State.setWidth_row (s : State) (i : Fin 8) (v : Word) : (s.setWidth i v).row = s.row := rfl
@[simp] theorem State.setWidth_var (s : State) (i : Fin 8) (v : Word) : (s.setWidth i v).var = s.var := rfl
@[simp] theorem State.setWidth_sc (s : State) (i : Fin 8) (v : Word) : (s.setWidth i v).sc = s.sc := rfl
@[simp] theorem State.setWidth_dig0 (s : State) (i : Fin 8) (v : Word) : (s.setWidth i v).dig0 = s.dig0 := rfl
@[simp] theorem State.setWidth_dig1 (s : State) (i : Fin 8) (v : Word) : (s.setWidth i v).dig1 = s.dig1 := rfl
@[simp] theorem State.setWidth_len (s : State) (i : Fin 8) (v : Word) : (s.setWidth i v).len = s.len := rfl
@[simp] theorem State.setWidth_w (s : State) (i : Fin 8) (v : Word) :
    (s.setWidth i v).w = s.w.set i.val (v.extractLsb' 0 6) := rfl
@[simp] theorem State.setWidth_acc (s : State) (i : Fin 8) (v : Word) : (s.setWidth i v).acc = s.acc := rfl
@[simp] theorem State.setWidth_res0 (s : State) (i : Fin 8) (v : Word) : (s.setWidth i v).res0 = s.res0 := rfl
@[simp] theorem State.setWidth_res1 (s : State) (i : Fin 8) (v : Word) : (s.setWidth i v).res1 = s.res1 := rfl
@[simp] theorem State.setWidth_wt (s : State) (i : Fin 8) (v : Word) : (s.setWidth i v).wt = s.wt := rfl
@[simp] theorem State.setWidth_rstN (s : State) (i : Fin 8) (v : Word) : (s.setWidth i v).rstN = s.rstN := rfl
@[simp] theorem State.setWidth_wtDraw (s : State) (i : Fin 8) (v : Word) :
    (s.setWidth i v).wtDraw = s.wtDraw := rfl
@[simp] theorem State.setWidth_agenda (s : State) (i : Fin 8) (v : Word) :
    (s.setWidth i v).agenda = s.agenda := rfl
@[simp] theorem State.setWidth_lastRead (s : State) (i : Fin 8) (v : Word) :
    (s.setWidth i v).lastRead = s.lastRead := rfl

/-! A host write of one word of `WT` (R78). -/

@[simp] theorem State.setWeightWord_ie (s : State) (r : Fin 32) (h : Fin 2) (v : Word) :
    (s.setWeightWord r h v).ie = s.ie := rfl
@[simp] theorem State.setWeightWord_wtlock (s : State) (r : Fin 32) (h : Fin 2) (v : Word) :
    (s.setWeightWord r h v).wtlock = s.wtlock := rfl
@[simp] theorem State.setWeightWord_busy (s : State) (r : Fin 32) (h : Fin 2) (v : Word) :
    (s.setWeightWord r h v).busy = s.busy := rfl
@[simp] theorem State.setWeightWord_done (s : State) (r : Fin 32) (h : Fin 2) (v : Word) :
    (s.setWeightWord r h v).done = s.done := rfl
@[simp] theorem State.setWeightWord_err (s : State) (r : Fin 32) (h : Fin 2) (v : Word) :
    (s.setWeightWord r h v).err = s.err := rfl
@[simp] theorem State.setWeightWord_fatal (s : State) (r : Fin 32) (h : Fin 2) (v : Word) :
    (s.setWeightWord r h v).fatal = s.fatal := rfl
@[simp] theorem State.setWeightWord_wrign (s : State) (r : Fin 32) (h : Fin 2) (v : Word) :
    (s.setWeightWord r h v).wrign = s.wrign := rfl
@[simp] theorem State.setWeightWord_ecode (s : State) (r : Fin 32) (h : Fin 2) (v : Word) :
    (s.setWeightWord r h v).ecode = s.ecode := rfl
@[simp] theorem State.setWeightWord_cmd (s : State) (r : Fin 32) (h : Fin 2) (v : Word) :
    (s.setWeightWord r h v).cmd = s.cmd := rfl
@[simp] theorem State.setWeightWord_val (s : State) (r : Fin 32) (h : Fin 2) (v : Word) :
    (s.setWeightWord r h v).val = s.val := rfl
@[simp] theorem State.setWeightWord_n (s : State) (r : Fin 32) (h : Fin 2) (v : Word) :
    (s.setWeightWord r h v).n = s.n := rfl
@[simp] theorem State.setWeightWord_r (s : State) (r : Fin 32) (h : Fin 2) (v : Word) :
    (s.setWeightWord r h v).r = s.r := rfl
@[simp] theorem State.setWeightWord_elems (s : State) (r : Fin 32) (h : Fin 2) (v : Word) :
    (s.setWeightWord r h v).elems = s.elems := rfl
@[simp] theorem State.setWeightWord_maxw (s : State) (r : Fin 32) (h : Fin 2) (v : Word) :
    (s.setWeightWord r h v).maxw = s.maxw := rfl
@[simp] theorem State.setWeightWord_xnn (s : State) (r : Fin 32) (h : Fin 2) (v : Word) :
    (s.setWeightWord r h v).xnn = s.xnn := rfl
@[simp] theorem State.setWeightWord_row (s : State) (r : Fin 32) (h : Fin 2) (v : Word) :
    (s.setWeightWord r h v).row = s.row := rfl
@[simp] theorem State.setWeightWord_var (s : State) (r : Fin 32) (h : Fin 2) (v : Word) :
    (s.setWeightWord r h v).var = s.var := rfl
@[simp] theorem State.setWeightWord_sc (s : State) (r : Fin 32) (h : Fin 2) (v : Word) :
    (s.setWeightWord r h v).sc = s.sc := rfl
@[simp] theorem State.setWeightWord_dig0 (s : State) (r : Fin 32) (h : Fin 2) (v : Word) :
    (s.setWeightWord r h v).dig0 = s.dig0 := rfl
@[simp] theorem State.setWeightWord_dig1 (s : State) (r : Fin 32) (h : Fin 2) (v : Word) :
    (s.setWeightWord r h v).dig1 = s.dig1 := rfl
@[simp] theorem State.setWeightWord_len (s : State) (r : Fin 32) (h : Fin 2) (v : Word) :
    (s.setWeightWord r h v).len = s.len := rfl
@[simp] theorem State.setWeightWord_w (s : State) (r : Fin 32) (h : Fin 2) (v : Word) :
    (s.setWeightWord r h v).w = s.w := rfl
@[simp] theorem State.setWeightWord_acc (s : State) (r : Fin 32) (h : Fin 2) (v : Word) :
    (s.setWeightWord r h v).acc = s.acc := rfl
@[simp] theorem State.setWeightWord_res0 (s : State) (r : Fin 32) (h : Fin 2) (v : Word) :
    (s.setWeightWord r h v).res0 = s.res0 := rfl
@[simp] theorem State.setWeightWord_res1 (s : State) (r : Fin 32) (h : Fin 2) (v : Word) :
    (s.setWeightWord r h v).res1 = s.res1 := rfl
@[simp] theorem State.setWeightWord_wt (s : State) (r : Fin 32) (h : Fin 2) (v : Word) :
    (s.setWeightWord r h v).wt = s.wt.set r.val (setRowHalf s.wt[r.val] h v) := rfl
@[simp] theorem State.setWeightWord_rstN (s : State) (r : Fin 32) (h : Fin 2) (v : Word) :
    (s.setWeightWord r h v).rstN = s.rstN := rfl
@[simp] theorem State.setWeightWord_wtDraw (s : State) (r : Fin 32) (h : Fin 2) (v : Word) :
    (s.setWeightWord r h v).wtDraw = s.wtDraw := rfl
@[simp] theorem State.setWeightWord_agenda (s : State) (r : Fin 32) (h : Fin 2) (v : Word) :
    (s.setWeightWord r h v).agenda = s.agenda := rfl
@[simp] theorem State.setWeightWord_lastRead (s : State) (r : Fin 32) (h : Fin 2) (v : Word) :
    (s.setWeightWord r h v).lastRead = s.lastRead := rfl

/-! A command word placed for the next step (log entry 5). -/

@[simp] theorem State.loadCommand_ie (s : State) (word : Word) : (s.loadCommand word).ie = s.ie := rfl
@[simp] theorem State.loadCommand_wtlock (s : State) (word : Word) : (s.loadCommand word).wtlock = s.wtlock := rfl
@[simp] theorem State.loadCommand_busy (s : State) (word : Word) : (s.loadCommand word).busy = true := rfl
@[simp] theorem State.loadCommand_done (s : State) (word : Word) : (s.loadCommand word).done = false := rfl
@[simp] theorem State.loadCommand_err (s : State) (word : Word) : (s.loadCommand word).err = false := rfl
@[simp] theorem State.loadCommand_fatal (s : State) (word : Word) : (s.loadCommand word).fatal = s.fatal := rfl
@[simp] theorem State.loadCommand_wrign (s : State) (word : Word) : (s.loadCommand word).wrign = s.wrign := rfl
@[simp] theorem State.loadCommand_ecode (s : State) (word : Word) : (s.loadCommand word).ecode = 0 := rfl
@[simp] theorem State.loadCommand_cmd (s : State) (word : Word) : (s.loadCommand word).cmd = word := rfl
@[simp] theorem State.loadCommand_val (s : State) (word : Word) : (s.loadCommand word).val = s.val := rfl
@[simp] theorem State.loadCommand_n (s : State) (word : Word) : (s.loadCommand word).n = s.n := rfl
@[simp] theorem State.loadCommand_r (s : State) (word : Word) : (s.loadCommand word).r = s.r := rfl
@[simp] theorem State.loadCommand_elems (s : State) (word : Word) : (s.loadCommand word).elems = s.elems := rfl
@[simp] theorem State.loadCommand_maxw (s : State) (word : Word) : (s.loadCommand word).maxw = s.maxw := rfl
@[simp] theorem State.loadCommand_xnn (s : State) (word : Word) : (s.loadCommand word).xnn = s.xnn := rfl
@[simp] theorem State.loadCommand_row (s : State) (word : Word) : (s.loadCommand word).row = s.row := rfl
@[simp] theorem State.loadCommand_var (s : State) (word : Word) : (s.loadCommand word).var = s.var := rfl
@[simp] theorem State.loadCommand_sc (s : State) (word : Word) : (s.loadCommand word).sc = s.sc := rfl
@[simp] theorem State.loadCommand_dig0 (s : State) (word : Word) : (s.loadCommand word).dig0 = s.dig0 := rfl
@[simp] theorem State.loadCommand_dig1 (s : State) (word : Word) : (s.loadCommand word).dig1 = s.dig1 := rfl
@[simp] theorem State.loadCommand_len (s : State) (word : Word) : (s.loadCommand word).len = s.len := rfl
@[simp] theorem State.loadCommand_w (s : State) (word : Word) : (s.loadCommand word).w = s.w := rfl
@[simp] theorem State.loadCommand_acc (s : State) (word : Word) : (s.loadCommand word).acc = s.acc := rfl
@[simp] theorem State.loadCommand_res0 (s : State) (word : Word) : (s.loadCommand word).res0 = s.res0 := rfl
@[simp] theorem State.loadCommand_res1 (s : State) (word : Word) : (s.loadCommand word).res1 = s.res1 := rfl
@[simp] theorem State.loadCommand_wt (s : State) (word : Word) : (s.loadCommand word).wt = s.wt := rfl
@[simp] theorem State.loadCommand_rstN (s : State) (word : Word) : (s.loadCommand word).rstN = true := rfl
@[simp] theorem State.loadCommand_wtDraw (s : State) (word : Word) : (s.loadCommand word).wtDraw = s.wtDraw := rfl
@[simp] theorem State.loadCommand_agenda (s : State) (word : Word) :
    (s.loadCommand word).agenda = .complete :: s.agenda := rfl
@[simp] theorem State.loadCommand_lastRead (s : State) (word : Word) :
    (s.loadCommand word).lastRead = s.lastRead := rfl

end Sys2Proof.Machine
end

