-- ==== Sys2Proof/Laws/Ops.lean ====
section
/-! SUPPORT. One lemma per shared operation that says everything it can do. -/

namespace Sys2Proof.Machine

/-- No error has the code 0, which stands for no error (60_exceptions.md R170). -/
theorem ErrorCode.code_ne_zero (e : ErrorCode) : e.code ≠ 0 := by cases e <;> decide

/-- The codes are at most 7 (R170). -/
theorem ErrorCode.code_le (e : ErrorCode) : e.code.toNat ≤ 7 := by cases e <;> decide

/-- A completion either makes the command's writes and completes, or raises and writes nothing (R166, R167). -/
theorem complete_eq_next_iff (s t : State) (o : Except ErrorCode State) :
    complete s o = .next t ↔
      (∃ u, o = .ok u ∧ t = u.successCompletion) ∨ (∃ e, o = .error e ∧ t = s.errorCompletion e) := by
  cases o <;> simp [complete, eq_comm]

/-- A completion always answers a next state. -/
theorem complete_answers (s : State) (o : Except ErrorCode State) : ∃ t, complete s o = .next t := by
  cases o <;> simp [complete]

/-- What driving the reset pin can do (70 R190, R191). -/
theorem driveReset_cases (s : State) (level : Bool) :
    (level = true ∧ s.rstN = true ∧ s.driveReset level = s) ∨
      ((level = false ∨ s.rstN = false) ∧ s.driveReset level = { s.hardReset with rstN := level }) := by
  unfold State.driveReset
  cases level <;> cases h : s.rstN <;> simp

/-- The modulus that `VAR` selects (41_checksum.md R133). -/
theorem modulus_eq_some_iff (var : BitVec 2) (m : Nat) :
    modulus var = some m ↔ (var = 0 ∧ m = 79) ∨ (var = 1 ∧ m = 89) ∨ (var = 2 ∧ m = 211) := by
  have h : var = 0 ∨ var = 1 ∨ var = 2 ∨ var = 3 := by revert var; decide
  rcases h with rfl | rfl | rfl | rfl <;> simp [modulus, eq_comm]

/-- `VAR = 3` selects no modulus (R133). -/
theorem modulus_eq_none_iff (var : BitVec 2) : modulus var = none ↔ var = 3 := by
  revert var; decide

/-- The binomial coefficient of the rules is that of the library, outside the rules' domain too (00_scope.md R8). -/
theorem binomial_eq_choose (a b : Nat) : binomial a b = a.choose b := by
  unfold binomial
  split
  · exact (Nat.choose_eq_factorial_div_factorial ‹_›).symm
  · exact (Nat.choose_eq_zero_of_lt (by omega)).symm

/-- A sum below a count, one term more. -/
theorem sumBelow_succ (count : Nat) (f : Nat → Nat) : sumBelow (count + 1) f = sumBelow count f + f count := by
  simp [sumBelow, List.range_succ]

/-- A sum below a count as a sum over a finite set. -/
theorem sumBelow_eq_sum (count : Nat) (f : Nat → Nat) : sumBelow count f = ∑ i ∈ Finset.range count, f i := by
  induction count with
  | zero => simp [sumBelow]
  | succ count ih => rw [sumBelow_succ, ih, Finset.sum_range_succ]

/-- The width vector after WIDTHS, entry by entry (40_combinatorics.md R120). -/
theorem setWidths_getElem (s : State) (out : List Nat) (i : Nat) (h : i < 8) :
    (s.setWidths out).w[i] = BitVec.ofNat 6 (out.getD i 0) := by
  simp [State.setWidths]

/-- An entry of `W` as an operand, at an index of the vector. -/
theorem width_eq (s : State) (i : Nat) (h : i < 8) : s.width i = s.w[i].toNat := by
  simp [State.width, h]

/-- A weight as an operand, at indices of the table. -/
theorem weight_eq (s : State) (r c : Nat) (hr : r < 32) (hc : c < 8) : s.weight r c = s.wt[r][c].toNat := by
  simp [State.weight, hr, hc]

end Sys2Proof.Machine
end

