-- ==== Sys2Proof/Laws/Commands.lean ====
section
/-! SUPPORT. One lemma per command that says everything its completion can do, and what holds of all eight. -/

namespace Sys2Proof.Machine

/-- What COMB can do (40_combinatorics.md R113). -/
theorem combBody_cases (s : State) :
    ((32 < s.n.toNat ∨ s.n.toNat < s.r.toNat) ∧ combBody s = .error .eOperand) ∨
      (s.n.toNat ≤ 32 ∧ s.r.toNat ≤ s.n.toNat ∧
        combBody s = .ok (s.setResults (binomial s.n.toNat s.r.toNat) 0)) := by
  unfold combBody
  split
  · exact .inl ⟨.inl (by simpa using ‹_›), rfl⟩
  · split
    · exact .inl ⟨.inr ‹_›, rfl⟩
    · exact .inr ⟨by simp at *; omega, by omega, rfl⟩

/-- What WIDTHS can do (R116, R117, R120). -/
theorem widthsBody_cases (s : State) :
    (widthsOperandsBad s.n.toNat s.elems.toNat s.maxw.toNat s.xnn = true ∧ widthsBody s = .error .eOperand) ∨
      (widthsOperandsBad s.n.toNat s.elems.toNat s.maxw.toNat s.xnn = false ∧
        ((∃ e, placeWidths s.maxw.toNat s.xnn s.elems.toNat s.n.toNat false s.val.toNat = .error e ∧
            widthsBody s = .error e) ∨
          ∃ out, placeWidths s.maxw.toNat s.xnn s.elems.toNat s.n.toNat false s.val.toNat = .ok out ∧
            ((selfCheck s.n.toNat s.maxw.toNat s.xnn out = true ∧ widthsBody s = .ok (s.setWidths out)) ∨
              (selfCheck s.n.toNat s.maxw.toNat s.xnn out = false ∧ widthsBody s = .error .eInvariant)))) := by
  unfold widthsBody
  cases hb : widthsOperandsBad s.n.toNat s.elems.toNat s.maxw.toNat s.xnn
  · cases hp : placeWidths s.maxw.toNat s.xnn s.elems.toNat s.n.toNat false s.val.toNat with
    | error e => simp
    | ok out => cases hc : selfCheck s.n.toNat s.maxw.toNat s.xnn out <;> simp [hc]
  · simp

/-- What CKMAC can do (41_checksum.md R132). -/
theorem ckmacBody_cases (s : State) :
    (s.wtlock = false ∧ ckmacBody s = .error .eWtlock) ∨
      (s.wtlock = true ∧
        (((s.elems.toNat < 1 ∨ 8 < s.elems.toNat) ∧ ckmacBody s = .error .eOperand) ∨
          (1 ≤ s.elems.toNat ∧ s.elems.toNat ≤ 8 ∧
            ((2 ^ 32 ≤ s.acc.toNat + s.weightedSum ∧ ckmacBody s = .error .eAccovf) ∨
              (s.acc.toNat + s.weightedSum < 2 ^ 32 ∧
                ckmacBody s = .ok (s.setAcc (s.acc.toNat + s.weightedSum))))))) := by
  unfold ckmacBody
  split
  · exact .inl ⟨‹_›, rfl⟩
  · rename_i hl
    refine .inr ⟨by simpa using hl, ?_⟩
    split
    · rename_i hk
      exact .inl ⟨hk, rfl⟩
    · have hk : 1 ≤ s.elems.toNat ∧ s.elems.toNat ≤ 8 := by simp at *; omega
      refine .inr ⟨hk.1, hk.2, ?_⟩
      split
      · exact .inl ⟨by simpa using ‹_›, rfl⟩
      · exact .inr ⟨by simp at *; omega, rfl⟩

/-- What CKRED can do (R133). -/
theorem ckredBody_cases (s : State) :
    (s.var = 3 ∧ ckredBody s = .error .eOperand) ∨
      ∃ m, modulus s.var = some m ∧ ckredBody s = .ok (s.setResults (s.acc.toNat % m) 0) := by
  unfold ckredBody
  cases hm : modulus s.var with
  | none => exact .inl ⟨(modulus_eq_none_iff _).1 hm, rfl⟩
  | some m => exact .inr ⟨m, rfl, rfl⟩

/-- What CKFIN can do (R134 to R137). -/
theorem ckfinBody_cases (s : State) :
    (s.var = 0 ∧ ckfinBody s = .ok (finOmni s (s.acc.toNat % 79))) ∨
      (s.var = 1 ∧ ckfinBody s = .ok (finLimited s (s.acc.toNat % 89))) ∨
      (s.var = 2 ∧ s.sc.toNat < 3 ∧ ckfinBody s = .error .eOperand) ∨
      (s.var = 2 ∧ 3 ≤ s.sc.toNat ∧ ckfinBody s = .ok (finExpanded s (s.acc.toNat % 211))) ∨
      (s.var = 3 ∧ ckfinBody s = .error .eOperand) := by
  have h : s.var = 0 ∨ s.var = 1 ∨ s.var = 2 ∨ s.var = 3 := by generalize s.var = v; revert v; decide
  unfold ckfinBody
  rcases h with h | h | h | h <;> simp [h]
  omega

/-- What GTINCD can do (42_gtin.md R153). -/
theorem gtincdBody_cases (s : State) :
    ((s.len.toNat < 1 ∨ 13 < s.len.toNat) ∧ gtincdBody s = .error .eOperand) ∨
      (1 ≤ s.len.toNat ∧ s.len.toNat ≤ 13 ∧
        ((s.hasNonDigit = true ∧ gtincdBody s = .error .eDigit) ∨
          (s.hasNonDigit = false ∧
            gtincdBody s = .ok (s.setResults (checkDigit s.paddedPayload) (gtinSum s.paddedPayload))))) := by
  unfold gtincdBody
  split
  · exact .inl ⟨‹_›, rfl⟩
  · refine .inr ⟨by omega, by omega, ?_⟩
    cases s.hasNonDigit <;> simp

/-- Some digit in use is above 9, in the words of the rules (R153, R154). -/
theorem hasNonDigit_eq_true_iff (s : State) : s.hasNonDigit = true ↔ ∃ j < s.len.toNat, 9 < s.digit j := by
  simp [State.hasNonDigit]

/-- Every command's completion answers a next state: none of the eight ends in a fault or a refusal. -/
theorem exec_answers (i : Instr) (s : State) : ∃ t, exec i s = .next t := by
  cases i
  case comb => exact complete_answers s (combBody s)
  case widths => exact complete_answers s (widthsBody s)
  case ckclr => exact complete_answers s (ckclrBody s)
  case ckmac => exact complete_answers s (ckmacBody s)
  case ckred => exact complete_answers s (ckredBody s)
  case ckfin => exact complete_answers s (ckfinBody s)
  case gtincd => exact complete_answers s (gtincdBody s)
  case gtinval => exact complete_answers s (gtinvalBody s)

/-- The frame of all eight commands: a success changes at most `W`, `ACC`, `RES0`, `RES1` besides the completion's
flags, and an error completion changes flags only (30_encoding.md R92, 60_exceptions.md R166, R167). -/
theorem exec_cases (i : Instr) (s t : State) (h : exec i s = .next t) :
    (∃ w acc res0 res1, t = State.successCompletion { s with w := w, acc := acc, res0 := res0, res1 := res1 }) ∨
      ∃ e, t = s.errorCompletion e := by
  have key (o : Except ErrorCode State)
      (ho : ∀ u, o = .ok u → ∃ w acc res0 res1, u = { s with w := w, acc := acc, res0 := res0, res1 := res1 })
      (hc : complete s o = .next t) :
      (∃ w acc res0 res1, t = State.successCompletion { s with w := w, acc := acc, res0 := res0, res1 := res1 }) ∨
        ∃ e, t = s.errorCompletion e := by
    rcases (complete_eq_next_iff _ _ _).1 hc with ⟨u, hu, rfl⟩ | ⟨e, -, rfl⟩
    · obtain ⟨w, acc, res0, res1, rfl⟩ := ho u hu
      exact .inl ⟨w, acc, res0, res1, rfl⟩
    · exact .inr ⟨e, rfl⟩
  cases i with
  | comb =>
    refine key _ (fun u hu => ?_) h
    rcases combBody_cases s with ⟨-, hb⟩ | ⟨-, -, hb⟩ <;> simp [hb] at hu
    exact ⟨_, _, _, _, hu.symm⟩
  | widths =>
    refine key _ (fun u hu => ?_) h
    rcases widthsBody_cases s with ⟨-, hb⟩ | ⟨-, ⟨e, -, hb⟩ | ⟨out, -, ⟨-, hb⟩ | ⟨-, hb⟩⟩⟩ <;> simp [hb] at hu
    exact ⟨_, _, _, _, hu.symm⟩
  | ckclr => exact key _ (fun u hu => ⟨_, _, _, _, (Except.ok.inj hu).symm⟩) h
  | ckmac =>
    refine key _ (fun u hu => ?_) h
    rcases ckmacBody_cases s with ⟨-, hb⟩ | ⟨-, ⟨-, hb⟩ | ⟨-, -, ⟨-, hb⟩ | ⟨-, hb⟩⟩⟩ <;> simp [hb] at hu
    exact ⟨_, _, _, _, hu.symm⟩
  | ckred =>
    refine key _ (fun u hu => ?_) h
    rcases ckredBody_cases s with ⟨-, hb⟩ | ⟨m, -, hb⟩ <;> simp [hb] at hu
    exact ⟨_, _, _, _, hu.symm⟩
  | ckfin =>
    refine key _ (fun u hu => ?_) h
    rcases ckfinBody_cases s with ⟨-, hb⟩ | ⟨-, hb⟩ | ⟨-, -, hb⟩ | ⟨-, -, hb⟩ | ⟨-, hb⟩ <;> simp [hb] at hu <;>
      exact ⟨_, _, _, _, hu.symm⟩
  | gtincd =>
    refine key _ (fun u hu => ?_) h
    rcases gtincdBody_cases s with ⟨-, hb⟩ | ⟨-, -, ⟨-, hb⟩ | ⟨-, hb⟩⟩ <;> simp [hb] at hu
    exact ⟨_, _, _, _, hu.symm⟩
  | gtinval => exact key _ (fun u hu => ⟨_, _, _, _, (Except.ok.inj hu).symm⟩) h

end Sys2Proof.Machine
end

