-- ==== Sys2Proof/Laws/PerInstr.lean ====
section
/-! SUPPORT. Statements about each instruction as syntax, one lemma per constructor. -/

namespace Sys2Proof.Laws

/-- The field `ZERO` of the encoding is 0, and the field `OP` is the opcode (30_encoding.md R90, R91). -/
def FormatFields.Statement (i : Instr) : Prop := zeroField (encode i) = 0 ∧ opField (encode i) = i.opcode

theorem FormatFields.comb : FormatFields.Statement .comb := by unfold FormatFields.Statement; decide
theorem FormatFields.widths : FormatFields.Statement .widths := by unfold FormatFields.Statement; decide
theorem FormatFields.ckclr : FormatFields.Statement .ckclr := by unfold FormatFields.Statement; decide
theorem FormatFields.ckmac : FormatFields.Statement .ckmac := by unfold FormatFields.Statement; decide
theorem FormatFields.ckred : FormatFields.Statement .ckred := by unfold FormatFields.Statement; decide
theorem FormatFields.ckfin : FormatFields.Statement .ckfin := by unfold FormatFields.Statement; decide
theorem FormatFields.gtincd : FormatFields.Statement .gtincd := by unfold FormatFields.Statement; decide
theorem FormatFields.gtinval : FormatFields.Statement .gtinval := by unfold FormatFields.Statement; decide

end Sys2Proof.Laws
end

