-- ==== Sys2Proof/Laws/Port.lean ====
section
/-! SUPPORT. What a host access can do (20_memory.md R72 to R82), said once per operation. -/

namespace Sys2Proof.Machine

/-- An access is refused exactly when the port cannot express it (R82). -/
theorem accessRefusal_eq_none_iff (offset bytes : Nat) :
    accessRefusal offset bytes = none ↔ expressible offset bytes = true := by
  unfold accessRefusal expressible
  split_ifs <;> simp_all

/-- What a host read can do when it answers a next state (R72). -/
theorem hostRead_eq_next_iff (s t : State) (offset bytes : Nat) :
    hostRead s offset bytes = .next t ↔
      expressible offset bytes = true ∧ t = { s with lastRead := s.portView.readLoc (locate offset) } := by
  rw [← accessRefusal_eq_none_iff]
  unfold hostRead
  cases accessRefusal offset bytes with
  | some why => simp
  | none => exact ⟨fun h => ⟨rfl, (Host.Outcome.next.inj h).symm⟩, fun h => congrArg _ h.2.symm⟩

/-- What a host write can do when it answers a next state (R73, R191). -/
theorem hostWrite_eq_next_iff (s t : State) (offset bytes : Nat) (v : Word) :
    hostWrite s offset bytes v = .next t ↔
      expressible offset bytes = true ∧ t = if s.rstN then s.writeLoc v (locate offset) else s := by
  rw [← accessRefusal_eq_none_iff]
  unfold hostWrite
  cases accessRefusal offset bytes with
  | some why => simp
  | none => exact ⟨fun h => ⟨rfl, (Host.Outcome.next.inj h).symm⟩, fun h => congrArg _ h.2.symm⟩

/-- What a write to `CTRL` can do (R75). -/
theorem writeCtrl_cases (s : State) (v : Word) :
    (v.getLsbD 31 = true ∧ s.writeCtrl v = s.softReset) ∨
      (v.getLsbD 31 = false ∧ s.writeCtrl v = { s with ie := v.getLsbD 0, wtlock := s.wtlock || v.getLsbD 1 }) := by
  unfold State.writeCtrl
  cases v.getLsbD 31 <;> simp

/-- What a write to `STATUS` can do (R76). -/
theorem writeStatus_cases (s : State) (v : Word) :
    (v.getLsbD 1 = true ∧ s.busy = false ∧
        s.writeStatus v = { s.acknowledge with wrign := s.wrign && !v.getLsbD 4 }) ∨
      ((v.getLsbD 1 = false ∨ s.busy = true) ∧ s.writeStatus v = { s with wrign := s.wrign && !v.getLsbD 4 }) := by
  unfold State.writeStatus State.writeStatusDone
  cases v.getLsbD 1 <;> cases h : s.busy <;> simp [h]

/-- What a write to `CMD` can do (R77). -/
theorem writeCmd_cases (s : State) (v : Word) :
    ((s.fatal = true ∨ s.busy = true) ∧ s.writeCmd v = s.discardWrite) ∨
      (s.fatal = false ∧ s.busy = false ∧ s.writeCmd v = s.acceptCommand v) := by
  unfold State.writeCmd
  cases h : s.fatal <;> cases h' : s.busy <;> simp

/-- A write of an operand register changes no state but the operand registers (R74). -/
theorem setOperand_frame (s : State) (v : Word) (o : OperandReg) :
    ∃ val n r elems maxw xnn row var sc dig0 dig1 len,
      s.setOperand v o =
        { s with val := val, n := n, r := r, elems := elems, maxw := maxw, xnn := xnn, row := row, var := var,
                 sc := sc, dig0 := dig0, dig1 := dig1, len := len } := by
  cases o <;> exact ⟨_, _, _, _, _, _, _, _, _, _, _, _, rfl⟩

end Sys2Proof.Machine
end

