-- ==== Sys2Proof/Laws/Step.lean ====
section
/-! SUPPORT. What one step can do, said once. -/

namespace Sys2Proof.Machine

/-- The engine's turn completes the pending command, or there is none and nothing happens (60_exceptions.md R165). -/
theorem engineTurn_eq_next (s t : State) (h : engineTurn s = .next t) :
    (s.busy = true ∧ s.rstN = true ∧
        ((∃ i, decode s.cmd = .ok i ∧ exec i s = .next t) ∨
          (∃ why, decode s.cmd = .error why ∧ t = s.errorCompletion .eOpcode))) ∨
      ((s.busy = false ∨ s.rstN = false) ∧ t = s) := by
  unfold engineTurn at h
  split at h
  · refine .inl ⟨by simp_all, by simp_all, ?_⟩
    unfold completePending at h
    cases hd : decode s.cmd with
    | ok i => exact .inl ⟨i, rfl, by simpa [hd] using h⟩
    | error why => exact .inr ⟨why, rfl, by simpa [hd, complete, eq_comm] using h⟩
  · refine .inr ⟨?_, by simpa [eq_comm] using h⟩
    cases hb : s.busy <;> simp_all

/-- The engine's turn always answers a next state. -/
theorem engineTurn_answers (s : State) : ∃ t, engineTurn s = .next t := by
  unfold engineTurn completePending
  split
  · split
    · exact exec_answers _ _
    · exact complete_answers _ _
  · exact ⟨s, rfl⟩

/-- What a step can do when it answers a next state: the engine's turn, a read, a write, or a change of the reset
pin (20_memory.md R83). -/
theorem step_eq_next (s t : State) (h : step s = .next t) :
    (s.agenda = [] ∧ engineTurn s = .next t) ∨
      ∃ ev rest, s.agenda = ev :: rest ∧
        ((ev = .complete ∧ engineTurn { s with agenda := rest } = .next t) ∨
          (∃ offset bytes, ev = .read offset bytes ∧ hostRead { s with agenda := rest } offset bytes = .next t) ∨
          (∃ offset bytes v, ev = .write offset bytes v ∧
            hostWrite { s with agenda := rest } offset bytes v = .next t) ∨
          (∃ level, ev = .rstPin level ∧ t = State.driveReset { s with agenda := rest } level)) := by
  unfold step nextTurn at h
  split at h
  · exact .inl ⟨‹_›, h⟩
  · rename_i ev rest hag
    refine .inr ⟨ev, rest, hag, ?_⟩
    cases ev with
    | read offset bytes => exact .inr (.inl ⟨offset, bytes, rfl, h⟩)
    | write offset bytes v => exact .inr (.inr (.inl ⟨offset, bytes, v, rfl, h⟩))
    | complete => exact .inl ⟨rfl, h⟩
    | rstPin level => exact .inr (.inr (.inr ⟨level, rfl, by simpa [takeEvent, eq_comm] using h⟩))

/-- The step on an empty agenda is the engine's turn (R165). -/
theorem step_nil (s : State) (h : s.agenda = []) : step s = engineTurn s := by
  unfold step nextTurn
  simp [h]

/-- The step on a non-empty agenda takes its first event (R83). -/
theorem step_cons (s : State) (ev : Event) (rest : List Event) (h : s.agenda = ev :: rest) :
    step s = takeEvent { s with agenda := rest } ev := by
  unfold step nextTurn
  simp [h]

end Sys2Proof.Machine
end

