-- ==== Sys2Proof/Tests/Slice0.lean ====
section
/-! SUPPORT. Small tests: the smoke tests of the well-formedness checks, command words written out from
30_encoding.md R90 and R91, one or two single steps per command with the results of 95_test_vectors.md, and for each
statement a state and operands that meet its hypotheses. -/

namespace Sys2Proof.Tests

open Sys2Proof.Machine

/-- The outcome is a next state of which `p` holds. -/
def answers (o : Host.Outcome State Fault Refusal) (p : State → Bool) : Bool :=
  match o with
  | .next t => p t
  | .fault _ => false
  | .refused _ => false

/-- The outcome is this refusal. -/
def refusedAs (o : Host.Outcome State Fault Refusal) (why : Refusal) : Bool :=
  match o with
  | .next _ => false
  | .fault _ => false
  | .refused r => decide (r = why)

/-- Reset with the operands of WIDTHS. -/
def widthsState (n k m : Nat) (x : Bool) (v : Nat) : State :=
  { State.reset with
    n := BitVec.ofNat 6 n
    elems := BitVec.ofNat 4 k
    maxw := BitVec.ofNat 6 m
    xnn := x
    val := BitVec.ofNat 32 v }

/-- Reset with a locked table whose weights are all 3, widths all 2, and `ELEMS` and `ACC` as given. -/
def macState (k acc : Nat) : State :=
  { State.reset with
    wtlock := true
    wt := Vector.replicate 32 (Vector.replicate 8 3)
    w := Vector.replicate 8 2
    elems := BitVec.ofNat 4 k
    acc := BitVec.ofNat 32 acc }

/-- Reset with the operands of CKRED and CKFIN. -/
def finState (var sc acc : Nat) : State :=
  { State.reset with var := BitVec.ofNat 2 var, sc := BitVec.ofNat 8 sc, acc := BitVec.ofNat 32 acc }

/-- Reset with a digit buffer. -/
def gtinState (hi lo len : Nat) : State :=
  { State.reset with dig1 := BitVec.ofNat 24 hi, dig0 := BitVec.ofNat 32 lo, len := BitVec.ofNat 4 len }

/-- Reset with one command pending and an agenda. -/
def busyState (word : Word) (agenda : List Event) : State :=
  { State.reset with busy := true, cmd := word, agenda := agenda }

/-- Reset with an agenda. -/
def withAgenda (agenda : List Event) : State := { State.reset with agenda := agenda }

/-! ## Well-formedness -/

theorem test_narrow_access_is_ill_formed : (Event.read 0x010 2).wellFormed = false := by decide
theorem test_misaligned_access_is_ill_formed : (Event.write 0x012 4 5).wellFormed = false := by decide
theorem test_access_above_window_is_ill_formed : (Event.rd 0x400).wellFormed = false := by decide
theorem test_last_word_is_well_formed : (Event.rd 0x3FC).wellFormed = true := by decide

/-! ## Decoding: the words of R91, bits 31:8 zero and the opcode in bits 7:0 -/

theorem test_decode_comb : decode 0b00000000000000000000000000000001 = .ok .comb := by decide
theorem test_decode_widths : decode 0b00000000000000000000000000000010 = .ok .widths := by decide
theorem test_decode_ckclr : decode 0b00000000000000000000000000010000 = .ok .ckclr := by decide
theorem test_decode_ckmac : decode 0b00000000000000000000000000010001 = .ok .ckmac := by decide
theorem test_decode_ckred : decode 0b00000000000000000000000000010010 = .ok .ckred := by decide
theorem test_decode_ckfin : decode 0b00000000000000000000000000010011 = .ok .ckfin := by decide
theorem test_decode_gtincd : decode 0b00000000000000000000000000100000 = .ok .gtincd := by decide
theorem test_decode_gtinval : decode 0b00000000000000000000000000100001 = .ok .gtinval := by decide
theorem test_decode_zero_is_illegal : decode 0 = .error .reservedOpcode := by decide
theorem test_decode_upper_bit_is_illegal : decode 0x00000102 = .error .upperBits := by decide
theorem test_table_word : decodeTableWord 32 0x13 = some .ckfin := by decide

/-! ## One step each, with the results of 95_test_vectors.md -/

/-- 2.1: `C(32, 16) = 601080390`. -/
theorem test_comb_largest :
    answers (step { (State.reset.withFetchWord 32 1) with n := 32, r := 16 })
      (fun t => t.res0 == 601080390 && t.statusWord == 0x002) = true := by decide +kernel

/-- 2.1: `N = 33, R = 0` is refused. -/
theorem test_comb_refuses_33 :
    answers (step { (State.reset.withFetchWord 32 1) with n := 33, r := 0 })
      (fun t => t.res0 == 0 && t.statusWord == 0x206) = true := by decide +kernel

/-- R124: `N = 12, ELEMS = 4, MAXW = 8, XNN = 1, VAL = 100` gives `[5, 1, 5, 1]`. -/
theorem test_widths_worked_example :
    answers (step ((widthsState 12 4 8 true 100).withFetchWord 32 2))
      (fun t => t.w.toList == [5, 1, 5, 1, 0, 0, 0, 0] && t.statusWord == 0x002) = true := by decide +kernel

/-- 2.2: the largest set's last vector. -/
theorem test_widths_last_of_largest_set :
    answers (step ((widthsState 32 8 32 false 2629574).withFetchWord 32 2))
      (fun t => t.w.toList == [25, 1, 1, 1, 1, 1, 1, 1]) = true := by decide +kernel

/-- R131. -/
theorem test_ckclr :
    answers (step ((macState 4 1234).withFetchWord 32 0x10)) (fun t => t.acc == 0 && t.statusWord == 0x002) = true := by
  decide +kernel

/-- R132: four products of 2 and 3 on 10. -/
theorem test_ckmac_adds_leading_products :
    answers (step ((macState 4 10).withFetchWord 32 0x11)) (fun t => t.acc == 34 && t.statusWord == 0x002) = true := by
  decide +kernel

/-- 2.5: without the lock the code is `E_WTLOCK`, `ELEMS = 0` or not. -/
theorem test_ckmac_without_lock :
    answers (step (State.reset.withFetchWord 32 0x11)) (fun t => t.statusWord == 0x506) = true := by decide +kernel

/-- 2.5: `4294967295 mod 211 = 50`. -/
theorem test_ckred_211 :
    answers (step ((finState 2 0 4294967295).withFetchWord 32 0x12)) (fun t => t.res0 == 50) = true := by
  decide +kernel

/-- 1.3: residue 72 gives the pair (8, 2). -/
theorem test_ckfin_threshold_reading :
    answers (step ((finState 0 0 72).withFetchWord 32 0x13)) (fun t => t.res0 == 8 && t.res1 == 2) = true := by
  decide +kernel

/-- R137: `ACC = 1000, SC = 5` gives 578 and 156. -/
theorem test_ckfin_expanded :
    answers (step ((finState 2 5 1000).withFetchWord 32 0x13)) (fun t => t.res0 == 578 && t.res1 == 156) = true := by
  decide +kernel

/-- 1.1: `0123456789012` has check digit 8 and sum 92. -/
theorem test_gtincd_source_example :
    answers (step ((gtinState 0x001234 0x56789012 13).withFetchWord 32 0x20))
      (fun t => t.res0 == 8 && t.res1 == 92) = true := by decide +kernel

/-- 2.6: `01234567890182`, the last two digits swapped, gives (0, 3). -/
theorem test_gtinval_bad_check_digit :
    answers (step ((gtinState 0x012345 0x67890182 14).withFetchWord 32 0x21))
      (fun t => t.res0 == 0 && t.res1 == 3 && t.statusWord == 0x002) = true := by decide +kernel

/-- 2.8: `WR 0x1FC, 0xAABBCCDD` packs column 4 in the least significant byte. -/
theorem test_weight_packing :
    answers (step (withAgenda [.wr 0x1FC 0xAABBCCDD]))
      (fun t => (t.wt[31]).toList.drop 4 == [0xDD, 0xCC, 0xBB, 0xAA]) = true := by decide +kernel

/-- 2.8: `RD ID`. -/
theorem test_read_id : answers (step (withAgenda [.rd 0x000])) (fun t => t.lastRead == 0x43574501) = true := by
  decide +kernel

/-! ## The hypotheses of the statements are met -/

theorem test_hypotheses_CombGivesBinomialOrRefuses_completes :
    ({ State.reset with n := 32, r := 32 } : State).n.toNat ≤ 32 ∧
      ({ State.reset with n := 32, r := 32 } : State).r.toNat ≤ ({ State.reset with n := 32, r := 32 } : State).n.toNat := by
  decide

theorem test_hypotheses_CombGivesBinomialOrRefuses_refuses :
    32 < ({ State.reset with n := 33 } : State).n.toNat ∧
      ({ State.reset with n := 6, r := 7 } : State).n.toNat < ({ State.reset with n := 6, r := 7 } : State).r.toNat := by
  decide

theorem test_hypotheses_WidthsChecksOperands_rejects_each :
    (widthsState 12 1 8 false 0).widthsRejected ∧ (widthsState 12 9 8 false 0).widthsRejected ∧
      (widthsState 3 4 8 false 0).widthsRejected ∧ (widthsState 33 4 20 false 0).widthsRejected ∧
      (widthsState 12 4 0 false 0).widthsRejected ∧ (widthsState 12 4 4 false 0).widthsRejected ∧
      (widthsState 12 4 5 true 0).widthsRejected := by decide

theorem test_hypotheses_WidthsChecksOperands_accepts :
    ¬(widthsState 12 4 6 true 0).widthsRejected ∧ (widthsState 12 4 6 true 0).err = false ∧
      answers (exec .widths (widthsState 12 4 6 true 0)) (fun t => t.err == false) = true := by decide +kernel

theorem test_hypotheses_WidthsWritesCheckedVector :
    ¬(widthsState 32 8 13 false 0).widthsRejected ∧ ¬(widthsState 2 2 1 true 0).widthsRejected := by decide

theorem test_hypotheses_WidthsCompletesBelowDomainSize_below :
    ¬(widthsState 12 4 8 false 160).widthsRejected ∧
      ((widthsState 12 4 8 false 160).val.toNat : Int) < (widthsState 12 4 8 false 160).domain := by decide +kernel

theorem test_hypotheses_WidthsCompletesBelowDomainSize_above :
    ¬(widthsState 12 4 8 false 161).widthsRejected ∧
      (widthsState 12 4 8 false 161).domain ≤ ((widthsState 12 4 8 false 161).val.toNat : Int) ∧
      (widthsState 3 2 1 false 0).domain ≤ ((widthsState 3 2 1 false 0).val.toNat : Int) := by decide +kernel

theorem test_hypotheses_RankInvertsWidths :
    ¬(widthsState 12 4 8 false 100).widthsRejected ∧ (widthsState 12 4 8 false 100).err = false ∧
      answers (exec .widths (widthsState 12 4 8 false 100))
        (fun t => t.err == false && t.widthList == [3, 5, 1, 3]) = true := by decide +kernel

theorem test_hypotheses_WidthsReachesEveryVector :
    ¬(widthsState 12 4 8 true 0).widthsRejected ∧ (widthsState 12 4 8 true 0).enumerates [5, 1, 5, 1] ∧
      (((100 : Word).toNat : Int) = (widthsState 12 4 8 true 0).rankOf [5, 1, 5, 1]) := by decide +kernel

theorem test_hypotheses_WidthsOrderIsLexicographic :
    ¬(widthsState 6 3 4 true 0).widthsRejected ∧ (widthsState 6 3 4 true 0).err = false ∧
      (4 : Word).toNat < (5 : Word).toNat ∧
      answers (exec .widths { widthsState 6 3 4 true 0 with val := 4 }) (fun t => t.err == false) = true ∧
      answers (exec .widths { widthsState 6 3 4 true 0 with val := 5 }) (fun t => t.err == false) = true := by
  decide +kernel

theorem test_hypotheses_CkmacAddsRowSumOrRefuses_completes :
    (macState 8 4294967247).wtlock = true ∧ 1 ≤ (macState 8 4294967247).elems.toNat ∧
      (macState 8 4294967247).elems.toNat ≤ 8 ∧
      (macState 8 4294967247).acc.toNat + (macState 8 4294967247).rowSum < 2 ^ 32 := by decide +kernel

theorem test_hypotheses_CkmacAddsRowSumOrRefuses_overflows :
    (macState 8 4294967248).wtlock = true ∧ 1 ≤ (macState 8 4294967248).elems.toNat ∧
      (macState 8 4294967248).elems.toNat ≤ 8 ∧
      2 ^ 32 ≤ (macState 8 4294967248).acc.toNat + (macState 8 4294967248).rowSum := by decide +kernel

theorem test_hypotheses_CkmacAddsRowSumOrRefuses_refuses :
    State.reset.wtlock = false ∧ (macState 0 0).wtlock = true ∧ (macState 0 0).elems.toNat < 1 ∧
      8 < (macState 9 0).elems.toNat := by decide

/-- Two CKMACs in the two orders, on a locked table. -/
def twoMacs : List MacInput := [⟨Vector.replicate 8 2, 0, 8⟩, ⟨Vector.replicate 8 5, 31, 1⟩]

theorem test_hypotheses_ChecksumOrderDoesNotMatter :
    twoMacs.Perm twoMacs.reverse ∧ (macState 4 7).wtlock = true ∧
      (∀ m ∈ twoMacs, 1 ≤ m.elems.toNat ∧ m.elems.toNat ≤ 8) ∧
      (twoMacs.map fun m => ((macState 4 7).withMac m).rowSum).sum < 2 ^ 32 :=
  ⟨(List.reverse_perm twoMacs).symm, by decide, by decide, by decide +kernel⟩

theorem test_hypotheses_CkredReducesByVariant :
    (finState 0 0 79).var = 0 ∧ (finState 1 0 89).var = 1 ∧ (finState 2 0 211).var = 2 ∧ (finState 3 0 0).var = 3 := by
  decide

theorem test_hypotheses_CkfinAppliesFinalStep_omnidirectional :
    (finState 0 0 7).var = 0 ∧ (finState 0 0 7).acc.toNat % 79 < 8 ∧ 8 ≤ (finState 0 0 70).acc.toNat % 79 ∧
      (finState 0 0 70).acc.toNat % 79 < 71 ∧ 71 ≤ (finState 0 0 71).acc.toNat % 79 := by decide

theorem test_hypotheses_CkfinAppliesFinalStep_others :
    (finState 1 0 0).var = 1 ∧ (finState 2 3 0).var = 2 ∧ 3 ≤ (finState 2 3 0).sc.toNat ∧
      (finState 2 2 0).sc.toNat < 3 ∧ (finState 3 0 0).var = 3 := by decide

theorem test_hypotheses_FinderPairsAreDistinct :
    (finState 0 0 8).var = 0 ∧ (finState 0 0 72).var = 0 ∧
      answers (exec .ckfin (finState 0 0 8)) (fun t => t.done) = true ∧
      answers (exec .ckfin (finState 0 0 72)) (fun t => t.done) = true ∧
      (finState 0 0 8).acc.toNat % 79 ≠ (finState 0 0 72).acc.toNat % 79 := by decide +kernel

theorem test_hypotheses_DigitBufferLayout : (7 : Nat) < 8 ∧ 8 ≤ (8 : Nat) ∧ (13 : Nat) < 14 := by decide

theorem test_hypotheses_GtincdGivesCheckDigitOrRefuses :
    (gtinState 0x099999 0x99999999 13).digitsOk ∧ (gtinState 0x099999 0x99999999 13).len.toNat = 13 ∧
      (gtinState 0 5 1).digitsOk ∧ 1 ≤ (gtinState 0 5 1).len.toNat ∧ (gtinState 0 0 0).len.toNat < 1 ∧
      13 < (gtinState 0 0 14).len.toNat ∧ ¬(gtinState 0 0x12A4 4).digitsOk := by decide +kernel

theorem test_hypotheses_GtinvalAnswersWithReason :
    (gtinState 0 0 0).len.toNat < 1 ∧ 14 < (gtinState 0 0 15).len.toNat ∧ ¬(gtinState 0x01234A 0x67890128 14).digitsOk ∧
      (gtinState 0x012345 0x67890128 14).digitsOk ∧
      ((gtinState 0x012345 0x67890128 14).digit 0 + (gtinState 0x012345 0x67890128 14).payloadSum) % 10 = 0 ∧
      (gtinState 0x012345 0x67890127 14).digitsOk ∧
      ((gtinState 0x012345 0x67890127 14).digit 0 + (gtinState 0x012345 0x67890127 14).payloadSum) % 10 ≠ 0 ∧
      (gtinState 0 7 1).digitsOk := by decide +kernel

theorem test_hypotheses_CheckDigitValidates :
    (gtinState 0x001234 0x56789012 13).len.toNat = 13 ∧ (gtinState 0x001234 0x56789012 13).digitsOk ∧
      answers (exec .gtincd (gtinState 0x001234 0x56789012 13))
        (fun t => decide ((gtinState 0x012345 0x67890128 14).digit 0 = t.res0.toNat)) = true ∧
      (∀ j < 13, (gtinState 0x012345 0x67890128 14).digit (j + 1) = (gtinState 0x001234 0x56789012 13).digit j) := by
  decide +kernel

theorem test_hypotheses_SingleDigitErrorIsDetected :
    (gtinState 0x012345 0x67890128 14).digitsOk ∧ (gtinState 0x112345 0x67890128 14).digitsOk ∧
      (gtinState 0x112345 0x67890128 14).digit 13 ≠ (gtinState 0x012345 0x67890128 14).digit 13 ∧
      (∀ j < 14, j ≠ 13 →
        (gtinState 0x112345 0x67890128 14).digit j = (gtinState 0x012345 0x67890128 14).digit j) ∧
      answers (exec .gtinval (gtinState 0x012345 0x67890128 14)) (fun t => t.res0 == 1) = true := by decide +kernel

theorem test_hypotheses_ExchangeByFiveIsNotDetected :
    (gtinState 0x050000 0x00000005 14).digitsOk ∧
      (gtinState 0x050000 0x00000005 14).digit 12 = (gtinState 0x050000 0x00000005 14).digit 13 + 5 ∧
      (gtinState 0x500000 0x00000005 14).digit 12 = (gtinState 0x050000 0x00000005 14).digit 13 ∧
      (gtinState 0x500000 0x00000005 14).digit 13 = (gtinState 0x050000 0x00000005 14).digit 12 ∧
      (∀ j < 14, j ≠ 12 → j ≠ 13 →
        (gtinState 0x500000 0x00000005 14).digit j = (gtinState 0x050000 0x00000005 14).digit j) ∧
      answers (exec .gtinval (gtinState 0x050000 0x00000005 14)) (fun t => t.res0 == 1) = true := by decide +kernel

theorem test_hypotheses_StepRunsDecodedInstruction :
    (busyState 0x21 []).engineNext [] ∧ (busyState 0x21 [.complete, .rd 8]).engineNext [.rd 8] ∧
      (busyState 0x21 []).busy = true ∧ (busyState 0x21 []).rstN = true ∧
      decode (busyState 0x21 []).cmd = .ok .gtinval ∧ Instr.gtinval.wellFormed = true := by decide +kernel

theorem test_hypotheses_IllegalWordCompletesWithOpcodeError :
    (withAgenda [.wr 0x00C 0x102, .complete]).rstN = true ∧ (withAgenda [.wr 0x00C 0x102, .complete]).busy = false ∧
      (withAgenda [.wr 0x00C 0x102, .complete]).fatal = false ∧ 256 ≤ (0x102 : Word).toNat ∧
      (0 : Word).toNat ∉ [0x01, 0x02, 0x10, 0x11, 0x12, 0x13, 0x20, 0x21] := by decide

theorem test_hypotheses_IdleBlockStays : State.reset.finished := by decide

theorem test_hypotheses_CompletionIsSuccessOrCleanError :
    State.reset.err = false ∧ State.reset.ecode = 0 ∧
      answers (exec .ckclr State.reset) (fun t => t.err == false) = true ∧
      answers (exec .ckmac State.reset) (fun t => t.err) = true := by decide +kernel

theorem test_hypotheses_CommandsRaiseOnlyTheirCodes :
    State.reset.err = false ∧ answers (exec .gtincd (gtinState 0 0xA 1)) (fun t => t.err) = true := by decide +kernel

theorem test_hypotheses_CommandReadsOnlyItsOperands :
    agreeOnReads (gtinState 0x00000A 0x123 3) (gtinState 0 0xF123 3) .gtincd := by
  unfold agreeOnReads
  decide +kernel

theorem test_hypotheses_CompletionRaisesInterrupt :
    (busyState 0x10 []).engineNext [] ∧ (busyState 0 [.complete, .rd 8]).engineNext [.rd 8] ∧
      (busyState 0 [.complete, .rd 8]).busy = true ∧ (busyState 0 [.complete, .rd 8]).rstN = true ∧
      answers (exec .ckclr { State.reset with ie := true }) (fun t => t.irq) = true := by decide

theorem test_hypotheses_AddressMapIsOneToOne :
    (0x3FC : Nat) % 4 = 0 ∧ (0x3FC : Nat) < 1024 ∧ locate 0x1FC ≠ .reserved ∧ locate 0x3FC = .reserved := by decide

theorem test_hypotheses_ReadReturnsRegister :
    (withAgenda [.rd 0x1FC]).rstN = true ∧ (0x1FC : Nat) % 4 = 0 ∧ (0x1FC : Nat) < 1024 ∧
      (withAgenda [.rd 0x1FC]).agenda = .rd 0x1FC :: [] := by decide

/-- The boundary offsets of the clauses over `W`, `WT` and the reserved ranges. -/
theorem test_hypotheses_ReadReturnsRegister_boundaries :
    (∀ a ∈ [0x000, 0x048, 0x04C, 0x05C, 0x060, 0x07C, 0x080, 0x0FC, 0x100, 0x1FC, 0x200, 0x3FC],
      a % 4 = 0 ∧ a < 1024 ∧ (withAgenda [.rd a]).agenda = .rd a :: []) ∧
      0x060 = 0x060 + 4 * (0 : Fin 8).val ∧ 0x07C = 0x060 + 4 * (7 : Fin 8).val ∧
      0x100 = 0x100 + 8 * (0 : Fin 32).val + 4 * ((3 : Fin 8).val / 4) ∧
      0x1FC = 0x100 + 8 * (31 : Fin 32).val + 4 * ((4 : Fin 8).val / 4) := by decide

theorem test_hypotheses_InexpressibleAccessIsRefused :
    refusedAs (step (withAgenda [.read 0x010 2])) .narrowAccess = true ∧
      refusedAs (step (withAgenda [.write 0x011 4 7])) .misalignedAccess = true ∧
      refusedAs (step (withAgenda [.rd 0x400])) .outsideWindow = true := by decide

theorem test_hypotheses_OperandWriteStoresField :
    (withAgenda [.wr OperandReg.len.offset 0x1F]).rstN = true ∧
      (withAgenda [.wr OperandReg.len.offset 0x1F]).busy = false ∧ (busyState 1 [.wr 0x07C 3]).busy = true ∧
      (busyState 1 [.wr 0x07C 3]).agenda = .wr (0x060 + 4 * (7 : Fin 8).val) 3 :: [] := by decide

theorem test_hypotheses_CtrlWriteFollowsRule :
    (withAgenda [.wr 0x004 0x80000000]).agenda = .wr 0x004 0x80000000 :: [] ∧
      (0x80000000 : Word).getLsbD 31 = true ∧ (0x7FFFFFFF : Word).getLsbD 31 = false := by decide

theorem test_hypotheses_StatusWriteFollowsRule :
    (withAgenda [.wr 0x008 0x12]).agenda = .wr 0x008 0x12 :: [] ∧ (0x12 : Word).getLsbD 1 = true ∧
      (0x12 : Word).getLsbD 4 = true ∧ (0xFFFFFFED : Word).getLsbD 1 = false ∧
      (0xFFFFFFED : Word).getLsbD 4 = false ∧ (withAgenda [.wr 0x008 0x12]).busy = false ∧
      (busyState 1 [.wr 0x008 2]).busy = true := by decide

theorem test_hypotheses_CmdWriteFollowsRule :
    (withAgenda [.wr 0x00C 1]).fatal = false ∧ (withAgenda [.wr 0x00C 1]).busy = false ∧
      (busyState 1 [.wr 0x00C 1]).busy = true ∧ ({ withAgenda [.wr 0x00C 1] with fatal := true } : State).fatal = true := by
  decide

theorem test_hypotheses_WeightWriteFollowsRule :
    (withAgenda [.wr 0x1FC 5]).agenda = .wr (0x100 + 8 * (31 : Fin 32).val + 4 * (1 : Fin 2).val) 5 :: [] ∧
      (withAgenda [.wr 0x1FC 5]).wtlock = false ∧ ({ withAgenda [.wr 0x1FC 5] with wtlock := true } : State).wtlock = true ∧
      (busyState 1 [.wr 0x1FC 5]).busy = true := by decide

theorem test_hypotheses_ReadOnlyWriteHasNoEffect :
    (withAgenda [.wr 0x05C 5]).agenda = .wr 0x05C 5 :: [] ∧ (0x05C : Nat) % 4 = 0 ∧
      (withAgenda [.wr 0x3FC 5]).agenda = .wr 0x3FC 5 :: [] ∧ (0x3FC : Nat) < 1024 := by decide

/-- The boundary offsets of the read-only and reserved ranges. -/
theorem test_hypotheses_ReadOnlyWriteHasNoEffect_boundaries :
    ∀ a ∈ [0x000, 0x040, 0x05C, 0x080, 0x0FC, 0x200, 0x3FC],
      a % 4 = 0 ∧ a < 1024 ∧ (withAgenda [.wr a 5]).agenda = .wr a 5 :: [] ∧
        (a = 0x000 ∨ (0x040 ≤ a ∧ a ≤ 0x05C) ∨ (0x080 ≤ a ∧ a ≤ 0x0FC) ∨ 0x200 ≤ a) := by decide

theorem test_hypotheses_SoftResetClearsAllButTable :
    (busyState 1 [.wr 0x004 0x80000003]).rstN = true ∧ (0x80000003 : Word).getLsbD 31 = true ∧
      (busyState 1 [.wr 0x004 0x80000003]).agenda = .wr 0x004 0x80000003 :: [] := by decide

theorem test_hypotheses_HardResetClearsRegisters :
    (busyState 1 [.rstPin false]).agenda = .rstPin false :: [] ∧
      ({ withAgenda [.rstPin true] with rstN := false } : State).rstN = false ∧
      ({ withAgenda [.rd 0x010] with rstN := false } : State).agenda = .rd 0x010 :: [] ∧
      ({ withAgenda [.wr 0x010 5] with rstN := false } : State).agenda = .wr 0x010 5 :: [] := by decide

theorem test_hypotheses_StatusConsistencyIsKept :
    (busyState 0x11 []).statusConsistent ∧ answers (step (busyState 0x11 [])) (fun t => t.err) = true := by
  decide +kernel

theorem test_hypotheses_FatalIsNeverSet :
    (busyState 2 []).notFatal ∧ answers (step (busyState 2 [])) (fun t => t.err) = true := by decide +kernel

theorem test_hypotheses_FatalLastsUntilReset :
    ({ withAgenda [.wr 0x00C 1] with fatal := true } : State).fatal = true ∧
      ¬State.resetNext { withAgenda [.wr 0x00C 1] with fatal := true } ∧
      answers (step { withAgenda [.wr 0x00C 1] with fatal := true }) (fun t => t.wrign) = true := by
  refine ⟨rfl, ?_, by decide⟩
  rintro ⟨ev, rest, h, hr⟩
  obtain ⟨rfl, rfl⟩ := List.cons.inj h
  exact absurd hr (by decide)

theorem test_hypotheses_HeldResetIsKept :
    State.resetHeld { withAgenda [.wr 0x010 5] with rstN := false } ∧
      answers (step { withAgenda [.wr 0x010 5] with rstN := false }) (fun t => t.val == 0) = true :=
  ⟨fun _ => rfl, by decide⟩

theorem test_hypotheses_PendingOperandsAreFrozen :
    (busyState 1 [.wr 0x014 3]).busy = true ∧
      answers (step (busyState 1 [.wr 0x014 3])) (fun t => t.busy && t.wrign && t.n == 0) = true := by decide

/-- Two states whose events are no resets: one completes CKCLR, one makes a write that sets `IE` and the lock. -/
theorem test_hypotheses_OnlyTheirWritersChangeRegisters :
    (¬(busyState 0x10 [.complete]).resetNext ∧ answers (step (busyState 0x10 [.complete])) (fun t => t.done) = true) ∧
      ¬(withAgenda [.wr 0x004 3]).resetNext ∧
      answers (step (withAgenda [.wr 0x004 3])) (fun t => t.ie && t.wtlock) = true := by
  refine ⟨⟨?_, by decide +kernel⟩, ?_, by decide +kernel⟩ <;>
    (rintro ⟨ev, rest, h, hr⟩; obtain ⟨rfl, rfl⟩ := List.cons.inj h; exact absurd hr (by decide))

/-- The premises of the clauses: a completion, a clearing write, a discarded write. -/
theorem test_hypotheses_OnlyTheirWritersChangeRegisters_clauses :
    (busyState 0x10 [.complete]).completesAs .ckclr ∧ (withAgenda [.wr 0x008 2]).clearsDoneNext ∧
      (busyState 1 [.wr 0x1FC 5]).discardsNext :=
  ⟨⟨⟨rfl, rfl, [], .inr rfl⟩, by decide⟩, ⟨rfl, .inl ⟨2, ⟨rfl, [], rfl⟩, by decide⟩⟩,
    ⟨0x1FC, 5, ⟨rfl, [], rfl⟩, .inl ⟨rfl, by decide⟩⟩⟩

/-- Each writer of R43 writes: one step for each clause, at the first and the last register of a range. -/
theorem test_hypotheses_OnlyTheirWritersChangeRegisters_writers :
    answers (step (withAgenda [.wr 0x010 5])) (fun t => t.readOperand .val == 5) = true ∧
      answers (step (withAgenda [.wr 0x03C 5])) (fun t => t.readOperand .len == 5) = true ∧
      answers (step (withAgenda [.wr 0x060 5])) (fun t => t.w[0] == 5) = true ∧
      answers (step (withAgenda [.wr 0x07C 5])) (fun t => t.w[7] == 5) = true ∧
      answers (step { widthsState 5 2 3 false 1 with busy := true, cmd := 2 }) (fun t => t.w[0] == 3 && t.w[1] == 2) = true ∧
      answers (step { busyState 0x10 [] with acc := 9 }) (fun t => t.acc == 0 && t.done) = true ∧
      answers (step (busyState 1 [])) (fun t => t.res0 == 1 && !t.busy) = true ∧
      answers (step (withAgenda [.wr 0x00C 1])) (fun t => t.busy && t.cmd == 1) = true ∧
      answers (step { withAgenda [.wr 0x008 2] with done := true, err := true, ecode := 2 })
        (fun t => !t.done && !t.err && t.ecode == 0) = true ∧
      answers (step { withAgenda [.wr 0x008 0x10] with wrign := true }) (fun t => !t.wrign) = true ∧
      answers (step { withAgenda [.wr 0x100 5] with wt := Vector.replicate 32 (Vector.replicate 8 3) })
        (fun t => t.wt[0][0] == 5 && t.wt[0][4] == 3) = true ∧
      answers (step { withAgenda [.wr 0x1FC 0x05000000] with wt := Vector.replicate 32 (Vector.replicate 8 3) })
        (fun t => t.wt[31][7] == 5 && t.wt[31][3] == 3) = true := by
  decide +kernel

theorem test_hypotheses_LockedTableNeverChanges :
    ({ withAgenda [.wr 0x100 5] with wtlock := true } : State).wtlock = true ∧
      (∀ ev ∈ ({ withAgenda [.wr 0x100 5] with wtlock := true } : State).agenda, eventIsReset ev = false) ∧
      answers (Sys2Proof.core.run 1 ({ withAgenda [.wr 0x100 5] with wtlock := true } : State)) (fun t => t.wrign) = true := by
  decide

theorem test_hypotheses_AcceptedCommandCompletes :
    (busyState 1 [.rd 8, .wr 0x018 5]).busy = true ∧ (busyState 1 [.rd 8, .wr 0x018 5]).rstN = true ∧
      (∀ ev ∈ (busyState 1 [.rd 8, .wr 0x018 5]).agenda, ev.wellFormed = true ∧ eventIsReset ev = false) := by decide

end Sys2Proof.Tests
end

section
/-! SUPPORT. The address map as the host's accesses use it (10_state.md R47, 20_memory.md R71), and a step whose event
is an access of one word of the window (R72, R73). -/

namespace Sys2Proof.Machine

/-- The map finds each operand register at its own offset (R47). -/
theorem locate_operand_offset (o : OperandReg) : locate o.offset = .operand o := by
  cases o <;> rfl

/-- `W` entry `i` stands at `0x060 + 4i` (R47). -/
theorem locate_width_offset (i : Fin 8) : locate (0x060 + 4 * i.val) = .w i := by
  revert i; decide

/-- The word of row `r` and half `h` of `WT` stands at `0x100 + 8r + 4h` (R71). -/
theorem locate_weight_offset (r : Fin 32) (h : Fin 2) : locate (0x100 + 8 * r.val + 4 * h.val) = .wt r h := by
  have hrow : Fin.ofNat 32 ((0x100 + 8 * r.val + 4 * h.val - 0x100) / 8) = r :=
    Fin.ext (by simp only [Fin.val_ofNat]; omega)
  have hhalf : Fin.ofNat 2 ((0x100 + 8 * r.val + 4 * h.val - 0x100) / 4) = h :=
    Fin.ext (by simp only [Fin.val_ofNat]; omega)
  unfold locate
  rw [if_pos (by omega), hrow, hhalf]

/-- The map finds every place at its own offset (R47, R71). -/
@[simp] theorem locate_offset (l : Loc) : locate l.offset = l := by
  cases l with
  | operand o => exact locate_operand_offset o
  | w i => exact locate_width_offset i
  | wt r h => exact locate_weight_offset r h
  | _ => rfl

/-- Every place lies at a multiple of 4 (R82). -/
theorem Loc.offset_mod_four (l : Loc) : l.offset % 4 = 0 := by
  cases l with
  | operand o => cases o <;> rfl
  | w i => simp only [Loc.offset]; omega
  | wt r h => simp only [Loc.offset]; omega
  | _ => rfl

/-- Every place lies in the window (R70). -/
theorem Loc.offset_lt (l : Loc) : l.offset < 1024 := by
  cases l with
  | operand o => cases o <;> decide
  | w i => simp only [Loc.offset]; omega
  | wt r h => simp only [Loc.offset]; omega
  | _ => decide

/-- The offsets that R47 does not list are reserved. -/
theorem locate_reserved (a : Nat) (ha : (0x04C ≤ a ∧ a ≤ 0x05C) ∨ (0x080 ≤ a ∧ a ≤ 0x0FC) ∨ 0x200 ≤ a) :
    locate a = .reserved := by
  unfold locate
  rw [if_neg (by omega), if_neg (by omega)]
  split
  case h_20 => rfl
  all_goals omega

/-- One whole aligned word of the window can be expressed at the port (R82). -/
theorem expressible_word (a : Nat) (halign : a % 4 = 0) (hwin : a < 1024) : expressible a 4 = true := by
  simp [expressible, halign, hwin]

/-- A step whose event is a read out of reset records the word of the place, and changes nothing else (R72). -/
theorem step_read (s : State) (a : Nat) (rest : List Event) (hrst : s.rstN = true) (halign : a % 4 = 0)
    (hwin : a < 1024) (hag : s.agenda = .rd a :: rest) :
    step s = .next { s with agenda := rest, lastRead := s.readLoc (locate a) } := by
  have hview : State.portView { s with agenda := rest } = { s with agenda := rest } := by
    simp [State.portView, hrst]
  rw [step_cons s _ rest hag]
  refine (hostRead_eq_next_iff _ _ a 4).mpr ⟨expressible_word a halign hwin, ?_⟩
  rw [hview]
  cases locate a <;> rfl

/-- A step whose event is a write: its effect on the place, or none while `rst_n` is low (R73, R191). -/
theorem step_write (s : State) (a : Nat) (v : Word) (rest : List Event) (halign : a % 4 = 0) (hwin : a < 1024)
    (hag : s.agenda = .wr a v :: rest) :
    step s =
      .next (if s.rstN then State.writeLoc { s with agenda := rest } v (locate a) else { s with agenda := rest }) := by
  rw [step_cons s _ rest hag]
  exact (hostWrite_eq_next_iff _ _ a 4 v).mpr ⟨expressible_word a halign hwin, rfl⟩

/-- A step whose event is a write to a place, out of reset (R73). -/
theorem step_write_offset (s : State) (l : Loc) (v : Word) (rest : List Event) (hrst : s.rstN = true)
    (hag : s.agenda = .wr l.offset v :: rest) :
    step s = .next (State.writeLoc { s with agenda := rest } v l) := by
  rw [step_write s l.offset v rest l.offset_mod_four l.offset_lt hag, if_pos hrst, locate_offset]

end Sys2Proof.Machine
end

section
/-! SUPPORT. The words of the port as numbers: fields beside each other, and the four lanes of a `WT` word
(10_state.md R38 to R42, 20_memory.md R71). -/

namespace Sys2Proof.Machine

/-- Two fields beside each other, as a number: the upper one weighs 2 to the width of the lower. -/
theorem append_toNat {m n : Nat} (x : BitVec m) (y : BitVec n) : (x ++ y).toNat = 2 ^ n * x.toNat + y.toNat := by
  rw [BitVec.toNat_append, ← Nat.shiftLeft_add_eq_or_of_lt y.isLt, Nat.shiftLeft_eq, Nat.mul_comm]

@[simp] theorem flagBit_toNat (b : Bool) : (flagBit b).toNat = if b then 1 else 0 := by
  cases b <;> rfl

/-- The flags of `CTRL` at their bits (R38). -/
theorem ctrlWord_toNat (s : State) :
    s.ctrlWord.toNat = (if s.ie then 1 else 0) + (if s.wtlock then 2 else 0) := by
  simp only [State.ctrlWord, append_toNat, flagBit_toNat, BitVec.ofNat_eq_ofNat, BitVec.toNat_ofNat]
  split_ifs <;> rfl

/-- The flags and the code of `STATUS` at their bits (R39). -/
theorem statusWord_toNat (s : State) :
    s.statusWord.toNat = (if s.busy then 1 else 0) + (if s.done then 2 else 0) + (if s.err then 4 else 0) +
      (if s.fatal then 8 else 0) + (if s.wrign then 16 else 0) + 256 * s.ecode.toNat := by
  have hflag : ∀ (b : Bool) (k : Nat), (if b then k else 0) = k * if b then 1 else 0 := fun b k => by
    cases b <;> simp
  rw [hflag s.done 2, hflag s.err 4, hflag s.fatal 8, hflag s.wrign 16]
  simp only [State.statusWord, append_toNat, flagBit_toNat, BitVec.ofNat_eq_ofNat, BitVec.toNat_ofNat]
  omega

/-- A word that is a field with zeros above has the field's value (R42). -/
theorem toNat_of_eq_zeroExtend {k : Nat} {d : Word} {x : BitVec k} (hk : k ≤ 32) (h : d = x.zeroExtend 32) :
    d.toNat = x.toNat := by
  rw [h]
  exact BitVec.toNat_setWidth_of_le hk

/-- Lane `c mod 4` of the `WT` word that holds column `c` is that column's weight (R71). -/
theorem weightWord_lane (s : State) (r : Fin 32) (h : Fin 2) (c : Nat) (hc : c < 8) (hch : c / 4 = h.val) :
    (s.weightWord r h).toNat / 256 ^ (c % 4) % 256 = s.wt[r.val][c].toNat := by
  have hword : (s.weightWord r h).toNat =
      s.wt[r.val][4 * h.val].toNat + 256 * s.wt[r.val][4 * h.val + 1].toNat +
        65536 * s.wt[r.val][4 * h.val + 2].toNat + 16777216 * s.wt[r.val][4 * h.val + 3].toNat := by
    simp only [State.weightWord, append_toNat]
    omega
  obtain ⟨b, hb, rfl⟩ : ∃ b < 4, c = 4 * h.val + b := ⟨c % 4, by omega, by omega⟩
  have hmod : (4 * h.val + b) % 4 = b := by omega
  rw [hword, hmod]
  interval_cases b
  · simp only [Nat.add_zero]; omega
  all_goals omega

/-- Byte `b` of a word, as a number (R71). -/
theorem lane_toNat (v : Word) (b : Nat) : (v.extractLsb' (8 * b) 8).toNat = v.toNat / 256 ^ b % 256 := by
  rw [BitVec.extractLsb'_toNat, Nat.shiftRight_eq_div_pow, Nat.pow_mul]

/-- After a write of a half row, each of its columns holds the lane of the column (R78). -/
theorem setRowHalf_getElem (cols : Vector Byte 8) (h : Fin 2) (v : Word) (c : Nat) (hc : c < 8) :
    (setRowHalf cols h v)[c] = if c / 4 = h.val then v.extractLsb' (8 * (c % 4)) 8 else cols[c] := by
  unfold setRowHalf
  split_ifs with hch
  · obtain ⟨b, hb, rfl⟩ : ∃ b < 4, c = 4 * h.val + b := ⟨c % 4, by omega, by omega⟩
    have hmod : (4 * h.val + b) % 4 = b := by omega
    rw [hmod]
    interval_cases b <;> simp
  · iterate 4 rw [Vector.getElem_set_ne _ _ (by omega)]

end Sys2Proof.Machine
end

section
/-! SUPPORT. What the operand registers hold after a host write (20_memory.md R74). -/

namespace Sys2Proof.Machine

/-- The written register holds exactly the field's bits of the word (R42, R74). -/
theorem readOperand_setOperand_same (s : State) (v : Word) (o : OperandReg) :
    ((s.setOperand v o).readOperand o).toNat = v.toNat % 2 ^ o.bits := by
  have hfield : ∀ k : Nat, k ≤ 32 → ((v.extractLsb' 0 k).zeroExtend 32).toNat = v.toNat % 2 ^ k := fun k hk => by
    rw [toNat_of_eq_zeroExtend hk rfl, BitVec.extractLsb'_toNat, Nat.shiftRight_zero]
  cases o with
  | val => exact (Nat.mod_eq_of_lt v.isLt).symm
  | dig0 => exact (Nat.mod_eq_of_lt v.isLt).symm
  | flags =>
    have hbit : (if v.getLsbD 0 then 1 else 0) = v.toNat % 2 := by
      rw [BitVec.getLsbD, Nat.testBit_zero]
      rcases Nat.mod_two_eq_zero_or_one v.toNat with h | h <;> simp [h]
    exact (toNat_of_eq_zeroExtend (by decide) rfl).trans ((flagBit_toNat _).trans hbit)
  | _ => exact hfield _ (by decide)

/-- No other operand register changes (R74). -/
theorem readOperand_setOperand_of_ne (s : State) (v : Word) {o o' : OperandReg} (h : o' ≠ o) :
    (s.setOperand v o).readOperand o' = s.readOperand o' := by
  cases o <;> cases o' <;> simp [State.readOperand, State.setOperand] at h ⊢

/-- With the operand registers put back, a write of one of them leaves no trace (R74). -/
theorem withOperandsOf_setOperand (s t : State) (v : Word) (o : OperandReg) :
    (s.setOperand v o).withOperandsOf t = s.withOperandsOf t := by
  cases o <;> rfl

end Sys2Proof.Machine
end

section
/-! SUPPORT. What a host write does at each kind of place (20_memory.md R74, R78, R79), and the table after a write of
one of its words. -/

namespace Sys2Proof.Machine

/-- A write to an operand register is discarded while busy (R74). -/
theorem writeLoc_operand_busy (s : State) (v : Word) (o : OperandReg) (hbusy : s.busy = true) :
    s.writeLoc v (.operand o) = s.discardWrite := if_pos hbusy

/-- A write to an operand register of an idle block stores (R74). -/
theorem writeLoc_operand_idle (s : State) (v : Word) (o : OperandReg) (hbusy : s.busy = false) :
    s.writeLoc v (.operand o) = s.setOperand v o := if_neg (by simp [hbusy])

/-- A write to `W` is discarded while busy (R74). -/
theorem writeLoc_width_busy (s : State) (v : Word) (i : Fin 8) (hbusy : s.busy = true) :
    s.writeLoc v (.w i) = s.discardWrite := if_pos hbusy

/-- A write to `W` of an idle block stores (R74). -/
theorem writeLoc_width_idle (s : State) (v : Word) (i : Fin 8) (hbusy : s.busy = false) :
    s.writeLoc v (.w i) = s.setWidth i v := if_neg (by simp [hbusy])

/-- A write to `WT` is discarded while busy or locked (R78). -/
theorem writeLoc_weight_discarded (s : State) (v : Word) (r : Fin 32) (h : Fin 2)
    (hoff : s.busy = true ∨ s.wtlock = true) : s.writeLoc v (.wt r h) = s.discardWrite :=
  if_pos (by simpa using hoff)

/-- A write to `WT` of an idle block with the table unlocked stores (R78). -/
theorem writeLoc_weight_stored (s : State) (v : Word) (r : Fin 32) (h : Fin 2) (hbusy : s.busy = false)
    (hlock : s.wtlock = false) : s.writeLoc v (.wt r h) = s.setWeightWord r h v :=
  if_neg (by simp [hbusy, hlock])

/-- The places the host cannot write (R79). -/
def Loc.readOnly : Loc → Bool
  | .id | .acc | .res0 | .res1 | .reserved => true
  | .ctrl | .status | .cmd | .operand _ | .w _ | .wt _ _ => false

/-- A write to a read-only or reserved place has no effect (R79). -/
theorem writeLoc_readOnly (s : State) (v : Word) (l : Loc) (hl : l.readOnly = true) : s.writeLoc v l = s := by
  cases l with
  | id | acc | res0 | res1 | reserved => rfl
  | _ => cases hl

/-- The word-aligned offsets of the read-only and reserved places (R47, R79). -/
theorem locate_readOnly (a : Nat) (halign : a % 4 = 0)
    (ha : a = 0x000 ∨ (0x040 ≤ a ∧ a ≤ 0x05C) ∨ (0x080 ≤ a ∧ a ≤ 0x0FC) ∨ 0x200 ≤ a) :
    (locate a).readOnly = true := by
  have hcases : a = 0x000 ∨ a = 0x040 ∨ a = 0x044 ∨ a = 0x048 ∨
      ((0x04C ≤ a ∧ a ≤ 0x05C) ∨ (0x080 ≤ a ∧ a ≤ 0x0FC) ∨ 0x200 ≤ a) := by omega
  rcases hcases with rfl | rfl | rfl | rfl | hres
  · rfl
  · rfl
  · rfl
  · rfl
  · exact congrArg Loc.readOnly (locate_reserved a hres)

/-- The entries of `W` after a write of entry `i` (R74). -/
theorem setWidth_getElem (s : State) (i : Fin 8) (v : Word) (j : Nat) (hj : j < 8) :
    (s.setWidth i v).w[j] = if j = i.val then v.extractLsb' 0 6 else s.w[j] := by
  simp [Vector.getElem_set, eq_comm]

/-- The weights after a write of the word of row `r` and half `h`: its lanes in that half row, the others as they were
(R71, R78). -/
theorem setWeightWord_getElem (s : State) (r : Fin 32) (h : Fin 2) (v : Word) (r' c : Nat) (hr : r' < 32)
    (hc : c < 8) :
    (s.setWeightWord r h v).wt[r'][c] =
      if r' = r.val ∧ c / 4 = h.val then v.extractLsb' (8 * (c % 4)) 8 else s.wt[r'][c] := by
  rw [State.setWeightWord_wt]
  by_cases hrow : r' = r.val
  · subst hrow
    simp [setRowHalf_getElem]
  · simp [hrow, Vector.getElem_set_ne _ _ (Ne.symm hrow)]

end Sys2Proof.Machine
end

section
/-! The statements about the host's accesses (20_memory.md R72 to R79). -/

namespace Sys2Proof.Machine

/-- Settles O31: the step records the word of the place (`step_read`), and each clause is that word's value. -/
theorem readReturnsRegister : Obligations.ReadReturnsRegister := by
  unfold Obligations.ReadReturnsRegister
  intro s a rest hrst halign hwin hag
  have hat : ∀ l : Loc, a = l.offset → s.readLoc (locate a) = s.readLoc l := fun l h => by rw [h, locate_offset]
  have hctrl := fun h => (congrArg BitVec.toNat (hat .ctrl h)).trans (ctrlWord_toNat s)
  have hstatus := fun h => (congrArg BitVec.toNat (hat .status h)).trans (statusWord_toNat s)
  have hfield : ∀ (l : Loc) {k : Nat} (x : BitVec k), k ≤ 32 → s.readLoc l = x.zeroExtend 32 → a = l.offset →
      (s.readLoc (locate a)).toNat = x.toNat := fun l _ x hk hl h => toNat_of_eq_zeroExtend hk ((hat l h).trans hl)
  refine ⟨_, step_read s a rest hrst halign hwin hag, rfl, ?_⟩
  exact ⟨hat .id, hctrl, hstatus, hat .cmd, hat (.operand .val),
    hfield (.operand .n) s.n (by decide) rfl, hfield (.operand .r) s.r (by decide) rfl,
    hfield (.operand .elems) s.elems (by decide) rfl, hfield (.operand .maxw) s.maxw (by decide) rfl,
    fun h => (hfield (.operand .flags) (flagBit s.xnn) (by decide) rfl h).trans (flagBit_toNat s.xnn),
    hfield (.operand .row) s.row (by decide) rfl, hfield (.operand .var) s.var (by decide) rfl,
    hfield (.operand .sc) s.sc (by decide) rfl, hat (.operand .dig0),
    hfield (.operand .dig1) s.dig1 (by decide) rfl, hfield (.operand .len) s.len (by decide) rfl,
    hat .acc, hat .res0, hat .res1,
    fun i => hfield (.w i) s.w[i.val] (by decide) rfl,
    fun r c h => by
      have hword : s.readLoc (locate a) = s.weightWord r ⟨c.val / 4, by omega⟩ :=
        hat (.wt r ⟨c.val / 4, by omega⟩) h
      rw [hword]
      exact weightWord_lane s r _ c.val c.isLt rfl,
    fun h => congrArg s.readLoc (locate_reserved a h)⟩

/-- Settles O33: by `step_write_offset`, and the lemmas on `setOperand` and the entries of `W`. -/
theorem operandWriteStoresField : Obligations.OperandWriteStoresField := by
  unfold Obligations.OperandWriteStoresField
  constructor
  · intro s o v rest hrst hag
    have hstep := step_write_offset s (.operand o) v rest hrst hag
    refine ⟨fun hbusy => hstep.trans (congrArg _ (writeLoc_operand_busy _ v o hbusy)), fun hbusy =>
      ⟨_, hstep.trans (congrArg _ (writeLoc_operand_idle _ v o hbusy)), readOperand_setOperand_same _ v o, ?_,
        withOperandsOf_setOperand _ s v o⟩⟩
    intro o' hne
    rw [readOperand_setOperand_of_ne _ v hne]
    cases o' <;> rfl
  · intro s i v rest hrst hag
    have hstep := step_write_offset s (.w i) v rest hrst hag
    refine ⟨fun hbusy => hstep.trans (congrArg _ (writeLoc_width_busy _ v i hbusy)), fun hbusy =>
      ⟨_, hstep.trans (congrArg _ (writeLoc_width_idle _ v i hbusy)), ?_, ?_, rfl⟩⟩
    · rw [setWidth_getElem _ i v i.val i.isLt, if_pos rfl, BitVec.extractLsb'_toNat, Nat.shiftRight_zero]
    · intro j hj hne
      rw [setWidth_getElem _ i v j hj, if_neg hne]

/-- Settles O37: by `step_write_offset` and the weights after the write (`setWeightWord_getElem`). -/
theorem weightWriteFollowsRule : Obligations.WeightWriteFollowsRule := by
  unfold Obligations.WeightWriteFollowsRule
  intro s r h v rest hrst hag
  have hstep := step_write_offset s (.wt r h) v rest hrst hag
  refine ⟨fun hoff => hstep.trans (congrArg _ (writeLoc_weight_discarded _ v r h hoff)), fun hbusy hlock =>
    ⟨_, hstep.trans (congrArg _ (writeLoc_weight_stored _ v r h hbusy hlock)), ?_, ?_, rfl⟩⟩
  · intro c hc hch
    rw [setWeightWord_getElem _ r h v r.val c r.isLt hc, if_pos ⟨rfl, hch⟩, lane_toNat]
  · intro r' c hr hc hne
    rw [setWeightWord_getElem _ r h v r' c hr hc, if_neg (by omega)]

/-- Settles O38: the offsets named are those of places that the host cannot write. -/
theorem readOnlyWriteHasNoEffect : Obligations.ReadOnlyWriteHasNoEffect := by
  unfold Obligations.ReadOnlyWriteHasNoEffect
  intro s a v rest halign hwin hag hro
  rw [step_write s a v rest halign hwin hag, writeLoc_readOnly _ v _ (locate_readOnly a halign hro), ite_self]

/-- Settles O34: the two cases of `writeCtrl`. -/
theorem ctrlWriteFollowsRule : Obligations.CtrlWriteFollowsRule := by
  unfold Obligations.CtrlWriteFollowsRule
  intro s v rest hrst hag
  have hstep := step_write_offset s .ctrl v rest hrst hag
  rcases writeCtrl_cases { s with agenda := rest } v with ⟨hbit, heq⟩ | ⟨hbit, heq⟩
  · exact ⟨fun _ => hstep.trans (congrArg _ heq), fun hoff => absurd hbit (Bool.eq_false_iff.mp hoff)⟩
  · exact ⟨fun hon => absurd hon (Bool.eq_false_iff.mp hbit), fun _ => hstep.trans (congrArg _ heq)⟩

/-- Settles O35: the two cases of `writeStatus`, `WRIGN` being treated alike in both. -/
theorem statusWriteFollowsRule : Obligations.StatusWriteFollowsRule := by
  unfold Obligations.StatusWriteFollowsRule
  intro s v rest hrst hag
  have hstep := step_write_offset s .status v rest hrst hag
  have hclear : v.getLsbD 4 = true → (s.wrign && !v.getLsbD 4) = false := fun h => by
    rw [h, Bool.not_true, Bool.and_false]
  have hkeep : v.getLsbD 4 = false → (s.wrign && !v.getLsbD 4) = s.wrign := fun h => by
    rw [h, Bool.not_false, Bool.and_true]
  rcases writeStatus_cases { s with agenda := rest } v with ⟨hack, hidle, heq⟩ | ⟨hnone, heq⟩
  · refine ⟨_, hstep.trans (congrArg _ heq), fun _ _ => ⟨rfl, rfl, rfl, Bool.and_false _⟩, ?_, hclear, hkeep,
      rfl⟩
    rintro (hnoack | hbusy)
    · exact absurd hack (Bool.eq_false_iff.mp hnoack)
    · exact absurd hbusy (Bool.eq_false_iff.mp hidle)
  · refine ⟨_, hstep.trans (congrArg _ heq), fun hack hidle => ?_, fun _ => ⟨rfl, rfl, rfl⟩, hclear, hkeep, rfl⟩
    rcases hnone with hnoack | hbusy
    · exact absurd hack (Bool.eq_false_iff.mp hnoack)
    · exact absurd hbusy (Bool.eq_false_iff.mp hidle)

/-- Settles O36: the two cases of `writeCmd`. -/
theorem cmdWriteFollowsRule : Obligations.CmdWriteFollowsRule := by
  unfold Obligations.CmdWriteFollowsRule
  intro s v rest hrst hag
  have hstep := step_write_offset s .cmd v rest hrst hag
  rcases writeCmd_cases { s with agenda := rest } v with ⟨hoff, heq⟩ | ⟨hfatal, hbusy, heq⟩
  · exact ⟨fun _ => hstep.trans (congrArg _ heq), fun hfatal hbusy => absurd hoff (by simp [hfatal, hbusy])⟩
  · have hidle : ¬(s.fatal = true ∨ s.busy = true) :=
      not_or.mpr ⟨Bool.eq_false_iff.mp hfatal, Bool.eq_false_iff.mp hbusy⟩
    exact ⟨fun hoff => absurd hoff hidle, fun _ _ => hstep.trans (congrArg _ heq)⟩

end Sys2Proof.Machine
end

section
/-! SUPPORT. The decoder on all words (30_encoding.md R90 to R94, R100): the two fields as numbers, the opcode map as a
relation, and everything the decoder can answer. -/

namespace Sys2Proof

/-- The field `OP` is the low byte of the word (R90). -/
theorem opField_toNat (w : Word) : (opField w).toNat = w.toNat % 256 := by
  rw [opField, BitVec.extractLsb'_toNat, Nat.shiftRight_zero]

/-- The field `ZERO` is 0 exactly for the words below 256 (R90). -/
theorem zeroField_eq_zero_iff (w : Word) : zeroField w = 0 ↔ w.toNat < 256 := by
  have hval : (zeroField w).toNat = w.toNat / 256 % 2 ^ 24 := by
    rw [zeroField, BitVec.extractLsb'_toNat, Nat.shiftRight_eq_div_pow]
  have hzero : (0 : BitVec 24).toNat = 0 := rfl
  rw [← BitVec.toNat_inj, hval, hzero]
  omega

/-- A command's word is its opcode, the bits above being 0 (R90, R91). -/
theorem encode_toNat (i : Instr) : (encode i).toNat = i.opcode.toNat := by
  rw [encode, Machine.append_toNat, BitVec.ofNat_eq_ofNat, BitVec.toNat_ofNat, Nat.zero_mod, Nat.mul_zero, Nat.zero_add]

/-- A word is a command's word exactly when `ZERO` is 0 and `OP` is the command's opcode (R90, R91). -/
theorem eq_encode_iff (w : Word) (i : Instr) : w = encode i ↔ w.toNat < 256 ∧ opField w = i.opcode := by
  rw [← BitVec.toNat_inj, ← BitVec.toNat_inj, encode_toNat, opField_toNat]
  omega

/-- The opcode map names each command at its own opcode and nowhere else (R91). -/
theorem opcodeInstr_eq_some_iff (op : Byte) (i : Instr) : opcodeInstr op = some i ↔ op = i.opcode := by
  constructor
  · intro h
    unfold opcodeInstr at h
    split_ifs at h with hop hop hop hop hop hop hop hop
    all_goals
      cases h
      exact hop
  · rintro rfl
    cases i <;> rfl

/-- The opcodes of R91 as numbers. -/
theorem mem_opcodes_iff (k : Nat) :
    k ∈ [0x01, 0x02, 0x10, 0x11, 0x12, 0x13, 0x20, 0x21] ↔ ∃ i : Instr, k = (encode i).toNat := by
  constructor
  · intro h
    fin_cases h
    exacts [⟨.comb, rfl⟩, ⟨.widths, rfl⟩, ⟨.ckclr, rfl⟩, ⟨.ckmac, rfl⟩, ⟨.ckred, rfl⟩, ⟨.ckfin, rfl⟩,
      ⟨.gtincd, rfl⟩, ⟨.gtinval, rfl⟩]
  · rintro ⟨i, rfl⟩
    cases i <;> decide

/-- Everything the decoder can answer: a rejection for the upper bits, a rejection for a gap of the opcode map, or the
command whose word it was given (R91, R93, R94). -/
theorem decode_cases (w : Word) :
    (256 ≤ w.toNat ∧ decode w = .error .upperBits) ∨
      (w.toNat < 256 ∧ (∀ i, w ≠ encode i) ∧ decode w = .error .reservedOpcode) ∨
      ∃ i, w = encode i ∧ decode w = .ok i := by
  unfold decode
  by_cases hw : w.toNat < 256
  · rw [if_neg (not_not.mpr ((zeroField_eq_zero_iff w).mpr hw))]
    cases hop : opcodeInstr (opField w) with
    | none =>
      refine .inr (.inl ⟨hw, fun i hi => ?_, rfl⟩)
      rw [(opcodeInstr_eq_some_iff _ i).mpr ((eq_encode_iff w i).mp hi).2] at hop
      cases hop
    | some i =>
      exact .inr (.inr ⟨i, (eq_encode_iff w i).mpr ⟨hw, (opcodeInstr_eq_some_iff _ i).mp hop⟩, rfl⟩)
  · exact .inl ⟨by omega, if_pos (mt (zeroField_eq_zero_iff w).mp hw)⟩

/-- No command's word has a bit set above its opcode (R90). -/
theorem encode_toNat_lt (i : Instr) : (encode i).toNat < 256 := ((eq_encode_iff _ i).mp rfl).1

/-- A command's word decodes to the command (R91). -/
theorem decode_encode (i : Instr) : decode (encode i) = .ok i := by
  cases i <;> rfl

/-- A word decodes to a command exactly when it is that command's word (R91, R100). -/
theorem decode_eq_ok_iff (w : Word) (i : Instr) : decode w = .ok i ↔ w = encode i := by
  constructor
  · intro h
    rcases decode_cases w with ⟨-, hd⟩ | ⟨-, -, hd⟩ | ⟨j, hw, hd⟩
    · cases hd.symm.trans h
    · cases hd.symm.trans h
    · cases hd.symm.trans h
      exact hw
  · rintro rfl
    exact decode_encode i

/-- A word is rejected for its upper bits exactly when one of bits 31:8 is set (R93). -/
theorem decode_eq_upperBits_iff (w : Word) : decode w = .error .upperBits ↔ 256 ≤ w.toNat := by
  rcases decode_cases w with ⟨hw, hd⟩ | ⟨hw, -, hd⟩ | ⟨i, rfl, hd⟩
  · simp [hd, hw]
  · simp [hd, hw]
  · simp [hd, encode_toNat_lt i]

/-- A word is rejected as a reserved opcode exactly when it is a low byte alone and no opcode (R94). -/
theorem decode_eq_reservedOpcode_iff (w : Word) :
    decode w = .error .reservedOpcode ↔
      w.toNat < 256 ∧ w.toNat ∉ [0x01, 0x02, 0x10, 0x11, 0x12, 0x13, 0x20, 0x21] := by
  rw [mem_opcodes_iff]
  simp only [BitVec.toNat_inj]
  rcases decode_cases w with ⟨hw, hd⟩ | ⟨hw, hgap, hd⟩ | ⟨i, rfl, hd⟩
  · simp [hd, hw]
  · simp [hd, hw, hgap]
  · simp [hd]

/-- A word with one of bits 31:8 set, or that is no opcode, is rejected (R93, R94). -/
theorem decode_eq_error_of_illegal (w : Word)
    (hw : 256 ≤ w.toNat ∨ w.toNat ∉ [0x01, 0x02, 0x10, 0x11, 0x12, 0x13, 0x20, 0x21]) :
    ∃ why, decode w = .error why := by
  rcases Nat.lt_or_ge w.toNat 256 with hlt | hge
  · exact ⟨_, (decode_eq_reservedOpcode_iff w).mpr ⟨hlt, hw.resolve_left (Nat.not_le.mpr hlt)⟩⟩
  · exact ⟨_, (decode_eq_upperBits_iff w).mpr hge⟩

end Sys2Proof
end

section
/-! SUPPORT. The completion of an illegal word (30_encoding.md R93, R94, 60_exceptions.md R173). -/

namespace Sys2Proof.Machine

/-- The error completion with `E_OPCODE` records code 1 and leaves `FATAL` as it is (60_exceptions.md R167, R170). -/
theorem errorCompletion_eOpcode (s : State) :
    s.errorCompletion .eOpcode = { s with busy := false, done := true, err := true, ecode := 1 } := by
  have hfatal : (s.fatal || ErrorCode.eOpcode == .eInvariant) = s.fatal := Bool.or_false s.fatal
  rw [State.errorCompletion, hfatal]
  rfl

/-- The engine's turn on a pending illegal word is the error completion with `E_OPCODE` (R93, R94). -/
theorem engineTurn_illegal (s : State) (why : IllegalWord) (hbusy : s.busy = true) (hrst : s.rstN = true)
    (hdec : decode s.cmd = .error why) : engineTurn s = .next (s.errorCompletion .eOpcode) := by
  simp [engineTurn, completePending, complete, hbusy, hrst, hdec]

/-- A step whose event is the engine's turn (R83, R165). -/
theorem step_engineNext (s : State) (rest : List Event) (hnext : s.engineNext rest) :
    step s = engineTurn { s with agenda := rest } := by
  rcases hnext with ⟨hag, rfl⟩ | hag
  · rw [step_nil s hag, ← hag]
  · exact step_cons s .complete rest hag

/-- A step that completes an illegal word: `DONE`, `ERR` and the code 1 of `E_OPCODE`, and nothing else but `BUSY`
(R93, R94). -/
theorem step_illegal (s : State) (rest : List Event) (why : IllegalWord) (hnext : s.engineNext rest)
    (hbusy : s.busy = true) (hrst : s.rstN = true) (hdec : decode s.cmd = .error why) :
    step s = .next { s with busy := false, done := true, err := true, ecode := 1, agenda := rest } := by
  have hturn := engineTurn_illegal { s with agenda := rest } why hbusy hrst hdec
  rw [step_engineNext s rest hnext, hturn, errorCompletion_eOpcode]

end Sys2Proof.Machine
end

section
/-! The statements about the command word (30_encoding.md R90 to R100). -/

namespace Sys2Proof.Machine

/-- Settles O1: a clause for each answer of the decoder, by `decode_eq_ok_iff` for the commands. -/
theorem decodeFollowsOpcodeMap : Obligations.DecodeFollowsOpcodeMap := by
  unfold Obligations.DecodeFollowsOpcodeMap
  intro w
  exact ⟨decode_eq_ok_iff w .comb, decode_eq_ok_iff w .widths, decode_eq_ok_iff w .ckclr, decode_eq_ok_iff w .ckmac,
    decode_eq_ok_iff w .ckred, decode_eq_ok_iff w .ckfin, decode_eq_ok_iff w .gtincd, decode_eq_ok_iff w .gtinval,
    decode_eq_upperBits_iff w, decode_eq_reservedOpcode_iff w⟩

/-- Settles O24: the write is the acceptance of R77 (`cmdWriteFollowsRule`), and the word is one the decoder rejects, so
that the step at the engine's turn is that of `step_illegal`. -/
theorem illegalWordCompletesWithOpcodeError : Obligations.IllegalWordCompletesWithOpcodeError := by
  unfold Obligations.IllegalWordCompletesWithOpcodeError
  intro s v rest hrst hbusy hfatal hag hword
  obtain ⟨why, hdec⟩ := decode_eq_error_of_illegal v hword
  have haccept := (cmdWriteFollowsRule s v (.complete :: rest) hrst hag).2 hfatal hbusy
  refine ⟨haccept, fun t ht => ?_⟩
  cases haccept.symm.trans ht
  exact step_illegal _ rest why (.inr rfl) rfl hrst hdec

end Sys2Proof.Machine
end

section
/-! SUPPORT. The operand error, and what COMB and WIDTHS can end with (40_combinatorics.md R113, R116, R119). -/

namespace Sys2Proof.Machine

/-- Every error but `E_INVARIANT` completes with its code and leaves `FATAL` as it is (60_exceptions.md R167, R174). -/
theorem errorCompletion_of_ne_eInvariant (s : State) {e : ErrorCode} (he : e ≠ .eInvariant) :
    s.errorCompletion e = { s with busy := false, done := true, err := true, ecode := e.code } := by
  simp [State.errorCompletion, he]

/-- The error completion with `E_OPERAND` records code 2 (R170). -/
theorem errorCompletion_eOperand (s : State) :
    s.errorCompletion .eOperand = { s with busy := false, done := true, err := true, ecode := 2 } :=
  errorCompletion_of_ne_eInvariant s (by decide)

/-- Code 2 is the code of `E_OPERAND` alone (R170). -/
theorem ErrorCode.code_eq_two_iff (e : ErrorCode) : e.code = 2 ↔ e = .eOperand := by
  cases e <;> decide

/-- A binomial coefficient within the range of COMB fits a word: it is at most that of the largest `n`, which is below
the sum `2 ^ 32` of its row (R112, R113). -/
theorem choose_lt_word {n : Nat} (r : Nat) (hn : n ≤ 32) : n.choose r < 2 ^ 32 :=
  (Nat.choose_le_choose r hn).trans_lt (Nat.choose_lt_two_pow 32 r (by decide))

/-- What COMB answers is the completion of its body (R113). -/
theorem exec_comb (s : State) : exec .comb s = complete s (combBody s) := rfl

/-- What WIDTHS answers is the completion of its body (R116 to R120). -/
theorem exec_widths (s : State) : exec .widths s = complete s (widthsBody s) := rfl

/-- The model's test of the operands is that of R116. -/
theorem widthsOperandsBad_iff (s : State) :
    widthsOperandsBad s.n.toNat s.elems.toNat s.maxw.toNat s.xnn = true ↔ s.widthsRejected := by
  simp only [widthsOperandsBad, State.widthsRejected, Bool.or_eq_true, Bool.and_eq_true, decide_eq_true_eq, or_assoc]

/-- A search for a width that finds none ends with `E_RANGE` (R117, R119). -/
theorem findWidth_error (rem k : Nat) (narrow : Bool) (m : Nat) (x : Bool) (left w : Nat) (val : Int) (e : ErrorCode)
    (h : findWidth rem k narrow m x left w val = .error e) : e = .eRange := by
  induction left generalizing w val with
  | zero => exact (Except.error.inj h).symm
  | succ left ih =>
    rw [findWidth] at h
    split at h
    · cases h
    · exact ih _ _ h

/-- A vector that cannot be finished ends with `E_RANGE`: only the search at a position raises (R117, R119). -/
theorem placeWidths_error (m : Nat) (x : Bool) (k rem : Nat) (narrow : Bool) (val : Int) (e : ErrorCode)
    (h : placeWidths m x k rem narrow val = .error e) : e = .eRange := by
  fun_induction placeWidths m x k rem narrow val with
  | case1 => cases h
  | case2 => cases h
  | case3 k rem narrow val e' hfind =>
    cases h
    exact findWidth_error _ _ _ _ _ _ _ _ _ hfind
  | case4 k rem narrow val w val' hfind e' hrest ih =>
    cases h
    exact ih hrest
  | case5 => cases h

/-- WIDTHS refuses operands that fail a check of R116. -/
theorem widthsBody_of_rejected (s : State) (hrej : s.widthsRejected) : widthsBody s = .error .eOperand :=
  if_pos ((widthsOperandsBad_iff s).mpr hrej)

/-- WIDTHS raises `E_OPERAND` only where a check of R116 fails: past the checks the errors are `E_RANGE` and
`E_INVARIANT` (R119, R120). -/
theorem widthsRejected_of_body (s : State) (h : widthsBody s = .error .eOperand) : s.widthsRejected := by
  rcases widthsBody_cases s with ⟨hbad, -⟩ | ⟨-, ⟨e, hplace, hb⟩ | ⟨out, -, ⟨-, hb⟩ | ⟨-, hb⟩⟩⟩
  · exact (widthsOperandsBad_iff s).mp hbad
  · cases (placeWidths_error _ _ _ _ _ _ _ hplace).symm.trans (Except.error.inj (hb.symm.trans h))
  · cases hb.symm.trans h
  · cases hb.symm.trans h

/-- What a successful WIDTHS writes: the vector, and no flag (R120). -/
theorem widthsBody_ok (s u : State) (h : widthsBody s = .ok u) : ∃ out, u = s.setWidths out := by
  rcases widthsBody_cases s with ⟨-, hb⟩ | ⟨-, ⟨e, -, hb⟩ | ⟨out, -, ⟨-, hb⟩ | ⟨-, hb⟩⟩⟩
  · cases hb.symm.trans h
  · cases hb.symm.trans h
  · exact ⟨out, (Except.ok.inj (hb.symm.trans h)).symm⟩
  · cases hb.symm.trans h

end Sys2Proof.Machine
end

section
/-! The statements about the operands of the combinatorics unit (40_combinatorics.md R113, R116). -/

namespace Sys2Proof.Machine

/-- Settles O4: the two cases of `combBody`; the coefficient fits `RES0` by `choose_lt_word`. -/
theorem combGivesBinomialOrRefuses : Obligations.CombGivesBinomialOrRefuses := by
  unfold Obligations.CombGivesBinomialOrRefuses
  refine ⟨decode_encode .comb, fun s => ?_⟩
  rw [exec_comb]
  rcases combBody_cases s with ⟨hbad, hb⟩ | ⟨hn, hr, hb⟩
  · rw [hb]
    exact ⟨fun hn hr => by omega, fun _ => congrArg _ (errorCompletion_eOperand s)⟩
  · rw [hb, binomial_eq_choose]
    exact ⟨fun _ _ => ⟨_, rfl, Nat.mod_eq_of_lt (choose_lt_word _ hn), rfl⟩, fun hbad => by omega⟩

/-- Settles O5: `widthsBody` raises `E_OPERAND` exactly where a check fails, no other error has its code, and a success
leaves `ERR` as it was. -/
theorem widthsChecksOperands : Obligations.WidthsChecksOperands := by
  unfold Obligations.WidthsChecksOperands
  refine ⟨decode_encode .widths, fun s => ⟨fun hrej => ?_, fun hacc herr t ht => ?_⟩⟩
  · rw [exec_widths, widthsBody_of_rejected s hrej]
    exact congrArg _ (errorCompletion_eOperand s)
  · rintro ⟨hterr, htcode⟩
    rcases (complete_eq_next_iff _ _ _).mp ht with ⟨u, hu, rfl⟩ | ⟨e, he, rfl⟩
    · obtain ⟨out, rfl⟩ := widthsBody_ok s u hu
      exact absurd hterr (by simp [herr])
    · cases (ErrorCode.code_eq_two_iff e).mp htcode
      exact hacc (widthsRejected_of_body s he)

end Sys2Proof.Machine
end

section
/-! SUPPORT. What each command of the checksum unit does under the condition its rule names (41_checksum.md R131 to
R137): the row sum of CKMAC, and the results as numbers. -/

namespace Sys2Proof.Machine

/-- What CKCLR answers is the completion of its body (R131). -/
theorem exec_ckclr (s : State) : exec .ckclr s = complete s (ckclrBody s) := rfl

/-- What CKMAC answers is the completion of its body (R132). -/
theorem exec_ckmac (s : State) : exec .ckmac s = complete s (ckmacBody s) := rfl

/-- What CKRED answers is the completion of its body (R133). -/
theorem exec_ckred (s : State) : exec .ckred s = complete s (ckredBody s) := rfl

/-- What CKFIN answers is the completion of its body (R134 to R137). -/
theorem exec_ckfin (s : State) : exec .ckfin s = complete s (ckfinBody s) := rfl

/-- A command that raises any error but `E_INVARIANT` writes its code and the completion's flags, and nothing else
(60_exceptions.md R167). -/
theorem complete_error_of_ne_eInvariant (s : State) {e : ErrorCode} (he : e ≠ .eInvariant) :
    complete s (.error e) = .next { s with busy := false, done := true, err := true, ecode := e.code } :=
  congrArg _ (errorCompletion_of_ne_eInvariant s he)

/-- `RES0` holds a result that fits a word (R35). -/
theorem setResults_res0_toNat (s : State) {x : Nat} (y : Nat) (hx : x < 2 ^ 32) :
    (s.setResults x y).res0.toNat = x := Nat.mod_eq_of_lt hx

/-- `RES1` holds a result that fits a word (R36). -/
theorem setResults_res1_toNat (s : State) (x : Nat) {y : Nat} (hy : y < 2 ^ 32) :
    (s.setResults x y).res1.toNat = y := Nat.mod_eq_of_lt hy

/-- `ACC` holds a sum that fits a word (R34). -/
theorem setAcc_acc_toNat (s : State) {x : Nat} (hx : x < 2 ^ 32) : (s.setAcc x).acc.toNat = x := Nat.mod_eq_of_lt hx

/-- A residue of `ACC` fits a word, whatever the modulus. -/
theorem acc_mod_lt_word (s : State) (m : Nat) : s.acc.toNat % m < 2 ^ 32 := (Nat.mod_le _ m).trans_lt s.acc.isLt

/-- A sum below a count, as a sum over all of `n` places whose terms from the count up are left out. -/
theorem sum_fin_ite_lt_eq_sumBelow {n count : Nat} (hcount : count ≤ n) (f : Nat → Nat) :
    (∑ i : Fin n, if i.val < count then f i.val else 0) = sumBelow count f := by
  have hplaces : (Finset.range n).filter (· < count) = Finset.range count := by
    ext i
    simp only [Finset.mem_filter, Finset.mem_range]
    omega
  calc (∑ i : Fin n, if i.val < count then f i.val else 0)
      = ∑ i ∈ Finset.range n, if i < count then f i else 0 :=
        Fin.sum_univ_eq_sum_range (fun i => if i < count then f i else 0) n
    _ = ∑ i ∈ Finset.range count, f i := by rw [← Finset.sum_filter, hplaces]
    _ = sumBelow count f := (sumBelow_eq_sum count f).symm

/-- With at most eight elements, the sum CKMAC runs is that over the columns of its row (R132). -/
theorem weightedSum_eq_rowSum (s : State) (hle : s.elems.toNat ≤ 8) : s.weightedSum = s.rowSum := by
  rw [State.weightedSum, State.rowSum, ← sum_fin_ite_lt_eq_sumBelow hle]
  refine Finset.sum_congr rfl fun i _ => ?_
  rw [width_eq s i i.isLt, weight_eq s s.row.toNat i s.row.isLt i.isLt]

/-- CKMAC with the table unlocked (R132). -/
theorem ckmacBody_of_unlocked (s : State) (hlock : s.wtlock = false) : ckmacBody s = .error .eWtlock :=
  if_pos hlock

/-- CKMAC with the table locked and a bad `ELEMS` (R132). -/
theorem ckmacBody_of_bad_elems (s : State) (hlock : s.wtlock = true) (hbad : s.elems.toNat < 1 ∨ 8 < s.elems.toNat) :
    ckmacBody s = .error .eOperand := by
  rw [ckmacBody, if_neg (by simp [hlock]), if_pos hbad]

/-- CKMAC past its operand checks: the row sum is added, unless `ACC` would reach `2^32` (R132). -/
theorem ckmacBody_of_checked (s : State) (hlock : s.wtlock = true) (hge : 1 ≤ s.elems.toNat)
    (hle : s.elems.toNat ≤ 8) :
    ckmacBody s =
      if 2 ^ 32 ≤ s.acc.toNat + s.rowSum then .error .eAccovf else .ok (s.setAcc (s.acc.toNat + s.rowSum)) := by
  have hgood : ¬(s.elems.toNat < 1 ∨ 8 < s.elems.toNat) := by omega
  rw [ckmacBody, if_neg (by simp [hlock]), if_neg hgood, weightedSum_eq_rowSum s hle]
  rfl

/-- CKRED with a modulus selected (R133). -/
theorem ckredBody_of_modulus (s : State) {m : Nat} (hm : modulus s.var = some m) :
    ckredBody s = .ok (s.setResults (s.acc.toNat % m) 0) := by
  rw [ckredBody, hm]

/-- CKRED with no modulus selected (R133). -/
theorem ckredBody_of_no_modulus (s : State) (hm : modulus s.var = none) : ckredBody s = .error .eOperand := by
  rw [ckredBody, hm]

/-- CKFIN for `VAR = 0` (R135). -/
theorem ckfinBody_of_var_zero (s : State) (hvar : s.var = 0) :
    ckfinBody s = .ok (finOmni s (s.acc.toNat % 79)) := by
  simpa [hvar] using ckfinBody_cases s

/-- CKFIN for `VAR = 1` (R136). -/
theorem ckfinBody_of_var_one (s : State) (hvar : s.var = 1) :
    ckfinBody s = .ok (finLimited s (s.acc.toNat % 89)) := by
  simpa [hvar] using ckfinBody_cases s

/-- CKFIN for `VAR = 2` with a sign count of at least 3 (R137). -/
theorem ckfinBody_of_var_two (s : State) (hvar : s.var = 2) (hsc : 3 ≤ s.sc.toNat) :
    ckfinBody s = .ok (finExpanded s (s.acc.toNat % 211)) := by
  simpa [hvar, hsc, Nat.not_lt.mpr hsc] using ckfinBody_cases s

/-- CKFIN for `VAR = 2` with a sign count below 3 (R134). -/
theorem ckfinBody_of_low_sc (s : State) (hvar : s.var = 2) (hsc : s.sc.toNat < 3) :
    ckfinBody s = .error .eOperand := by
  simpa [hvar, hsc, Nat.not_le.mpr hsc] using ckfinBody_cases s

/-- CKFIN for `VAR = 3` (R134). -/
theorem ckfinBody_of_var_three (s : State) (hvar : s.var = 3) : ckfinBody s = .error .eOperand := by
  simpa [hvar] using ckfinBody_cases s

/-- The two thresholds of R135 on the residue itself: 71 is the first whose value after the first adjustment reaches
72. -/
theorem skipResidues_eq (q : Nat) : skipResidues q = if q < 8 then q else if q < 71 then q + 1 else q + 2 := by
  simp only [skipResidues]
  split_ifs <;> omega

/-- Below the first threshold a residue stays (R135). -/
theorem skipResidues_of_lt_eight {q : Nat} (hq : q < 8) : skipResidues q = q := by
  rw [skipResidues_eq, if_pos hq]

/-- Between the thresholds a residue moves up by one (R135). -/
theorem skipResidues_of_mid {q : Nat} (hlo : 8 ≤ q) (hhi : q < 71) : skipResidues q = q + 1 := by
  rw [skipResidues_eq, if_neg (Nat.not_lt.mpr hlo), if_pos hhi]

/-- From the second threshold up a residue moves up by two (R135). -/
theorem skipResidues_of_ge_seventy_one {q : Nat} (hq : 71 ≤ q) : skipResidues q = q + 2 := by
  rw [skipResidues_eq, if_neg (by omega), if_neg (Nat.not_lt.mpr hq)]

/-- No residue moves up by more than two (R135). -/
theorem skipResidues_le (q : Nat) : skipResidues q ≤ q + 2 := by
  rw [skipResidues_eq]
  split_ifs <;> omega

/-- The left finder index of R135 as a number. -/
theorem finOmni_res0_toNat (s : State) {q : Nat} (hq : q < 79) : (finOmni s q).res0.toNat = skipResidues q / 9 :=
  setResults_res0_toNat s _ (by have := skipResidues_le q; omega)

/-- The right finder index of R135 as a number. -/
theorem finOmni_res1_toNat (s : State) (q : Nat) : (finOmni s q).res1.toNat = skipResidues q % 9 :=
  setResults_res1_toNat s _ (by omega)

/-- The two finder indices together give back the moved residue (R135). -/
theorem finOmni_pair (s : State) {q : Nat} (hq : q < 79) :
    9 * (finOmni s q).res0.toNat + (finOmni s q).res1.toNat = skipResidues q := by
  rw [finOmni_res0_toNat s hq, finOmni_res1_toNat]
  exact Nat.div_add_mod _ 9

/-- The value of the check sign as an integer: with `SC` at least 3 its offset is not negative, and it fits `RES0`
(R137). -/
theorem finExpanded_res0_toInt (s : State) {q : Nat} (hq : q < 211) (hsc : 3 ≤ s.sc.toNat) :
    ((finExpanded s q).res0.toNat : Int) = 211 * ((s.sc.toNat : Int) - 3) + q := by
  have hfits : 211 * (s.sc.toNat - 3) + q < 2 ^ 32 := by
    have := s.sc.isLt
    omega
  rw [finExpanded, setResults_res0_toNat s q hfits]
  omega

end Sys2Proof.Machine
end

section
/-! The statements about the checksum unit (41_checksum.md R131 to R137). -/

namespace Sys2Proof.Machine

/-- Settles O11: the body of CKCLR has one outcome, which clears `ACC`. -/
theorem ckclrClearsAccumulator : Obligations.CkclrClearsAccumulator := by
  unfold Obligations.CkclrClearsAccumulator
  exact ⟨decode_encode .ckclr, fun s => exec_ckclr s⟩

/-- Settles O12: a clause for each outcome of the body; the sum fits `ACC` where it is written. -/
theorem ckmacAddsRowSumOrRefuses : Obligations.CkmacAddsRowSumOrRefuses := by
  unfold Obligations.CkmacAddsRowSumOrRefuses
  refine ⟨decode_encode .ckmac, fun s => ?_⟩
  rw [exec_ckmac]
  refine ⟨fun hlock hge hle hfits => ?_, fun hlock => ?_, fun hlock hbad => ?_, fun hlock hge hle hover => ?_⟩
  · rw [ckmacBody_of_checked s hlock hge hle, if_neg (Nat.not_le.mpr hfits)]
    exact ⟨_, rfl, setAcc_acc_toNat s hfits, rfl⟩
  · rw [ckmacBody_of_unlocked s hlock]
    exact complete_error_of_ne_eInvariant s (by decide)
  · rw [ckmacBody_of_bad_elems s hlock hbad]
    exact complete_error_of_ne_eInvariant s (by decide)
  · rw [ckmacBody_of_checked s hlock hge hle, if_pos hover]
    exact complete_error_of_ne_eInvariant s (by decide)

/-- Settles O14: `VAR` selects the modulus (`modulus_eq_some_iff`) or none, and a residue fits `RES0`. -/
theorem ckredReducesByVariant : Obligations.CkredReducesByVariant := by
  unfold Obligations.CkredReducesByVariant
  refine ⟨decode_encode .ckred, fun s => ?_⟩
  rw [exec_ckred]
  refine ⟨fun m hm => ?_, fun hvar => ?_⟩
  · rw [ckredBody_of_modulus s ((modulus_eq_some_iff s.var m).mpr hm)]
    exact ⟨_, rfl, setResults_res0_toNat s 0 (acc_mod_lt_word s m), rfl⟩
  · rw [ckredBody_of_no_modulus s ((modulus_eq_none_iff s.var).mpr hvar)]
    exact complete_error_of_ne_eInvariant s (by decide)

/-- Settles O15: a clause for each outcome of the body; for `VAR = 0` the pair of indices is the moved residue
(`finOmni_pair`), which the thresholds give. -/
theorem ckfinAppliesFinalStep : Obligations.CkfinAppliesFinalStep := by
  unfold Obligations.CkfinAppliesFinalStep
  refine ⟨decode_encode .ckfin, fun s => ?_⟩
  rw [exec_ckfin]
  refine ⟨fun hvar => ?_, fun hvar => ?_, fun hvar hsc => ?_, fun hvar hsc => ?_, fun hvar => ?_⟩
  · have hpair := finOmni_pair s (Nat.mod_lt s.acc.toNat (by decide : 79 > 0))
    have hright := finOmni_res1_toNat s (s.acc.toNat % 79)
    rw [ckfinBody_of_var_zero s hvar]
    exact ⟨_, rfl, rfl, hright.trans_lt (Nat.mod_lt _ (by decide)),
      fun hq => hpair.trans (skipResidues_of_lt_eight hq),
      fun hlo hhi => hpair.trans (skipResidues_of_mid hlo hhi),
      fun hq => hpair.trans (skipResidues_of_ge_seventy_one hq)⟩
  · rw [ckfinBody_of_var_one s hvar]
    exact ⟨_, rfl, setResults_res0_toNat s 0 (acc_mod_lt_word s 89), rfl⟩
  · rw [ckfinBody_of_var_two s hvar hsc]
    exact ⟨_, rfl, finExpanded_res0_toInt s (Nat.mod_lt _ (by decide)) hsc,
      setResults_res1_toNat s (211 * (s.sc.toNat - 3) + s.acc.toNat % 211) (acc_mod_lt_word s 211), rfl⟩
  · rw [ckfinBody_of_low_sc s hvar hsc]
    exact complete_error_of_ne_eInvariant s (by decide)
  · rw [ckfinBody_of_var_three s hvar]
    exact complete_error_of_ne_eInvariant s (by decide)

end Sys2Proof.Machine
end

section
/-! SUPPORT. The arithmetic of the check digit (42_gtin.md R151, R152), and what each command of the GTIN unit does
under the condition its rule names (R153, R154). -/

namespace Sys2Proof.Machine

/-- What GTINCD answers is the completion of its body (R153). -/
theorem exec_gtincd (s : State) : exec .gtincd s = complete s (gtincdBody s) := rfl

/-- A command that gives two results that fit a word completes with them, and changes nothing else
(10_state.md R35, R36, 60_exceptions.md R166). -/
theorem complete_setResults (s : State) {x y : Nat} (hx : x < 2 ^ 32) (hy : y < 2 ^ 32) :
    ∃ t, complete s (.ok (s.setResults x y)) = .next t ∧ t.res0.toNat = x ∧ t.res1.toNat = y ∧
      t = { s with res0 := t.res0, res1 := t.res1, busy := false, done := true } :=
  ⟨_, rfl, setResults_res0_toNat s y hx, setResults_res1_toNat s x hy, rfl⟩

/-- The weighted sum as a sum over the thirteen places (R151). -/
theorem gtinSum_eq_sum (p : Nat → Nat) : gtinSum p = ∑ j : Fin 13, p j.val * (if j.val % 2 = 0 then 3 else 1) :=
  (sumBelow_eq_sum 13 _).trans
    (Fin.sum_univ_eq_sum_range (fun j => p j * (if j % 2 = 0 then 3 else 1)) 13).symm

/-- The weighted sum of the payload of GTINCD (R151, R153). -/
theorem gtinSum_paddedPayload (s : State) : gtinSum s.paddedPayload = s.paddedSum := gtinSum_eq_sum _

/-- The weighted sum of the thirteen digits left of the check digit (R151, R154). -/
theorem gtinSum_fullPayload (s : State) : gtinSum s.fullPayload = s.payloadSum := gtinSum_eq_sum _

/-- The check digit is a digit (R152). -/
theorem checkDigit_le (p : Nat → Nat) : checkDigit p ≤ 9 := by
  unfold checkDigit
  omega

/-- The check digit is the one digit that brings the weighted sum to a multiple of 10 (R152). -/
theorem eq_checkDigit_iff (p : Nat → Nat) {d : Nat} (hd : d ≤ 9) : d = checkDigit p ↔ (d + gtinSum p) % 10 = 0 := by
  unfold checkDigit
  omega

/-- The check digit brings the weighted sum to a multiple of 10 (R152). -/
theorem checkDigit_add_gtinSum (p : Nat → Nat) : (checkDigit p + gtinSum p) % 10 = 0 :=
  (eq_checkDigit_iff p (checkDigit_le p)).mp rfl

/-- A place of the digit buffer holds four bits (10_state.md R31). -/
theorem digit_lt (s : State) (j : Nat) : s.digit j < 16 := BitVec.isLt _

/-- The weighted sum of the payload of GTINCD fits `RES1`: thirteen places of four bits, weights at most 3. -/
theorem paddedSum_lt_word (s : State) : s.paddedSum < 2 ^ 32 := by
  have hplace (j : Fin 13) :
      (if j.val < s.len.toNat then s.digit j.val else 0) * (if j.val % 2 = 0 then 3 else 1) ≤ 15 * 3 :=
    have hdigit := digit_lt s j.val
    Nat.mul_le_mul (by split_ifs <;> omega) (by split_ifs <;> omega)
  calc s.paddedSum ≤ Finset.card (Finset.univ : Finset (Fin 13)) • (15 * 3) :=
        Finset.sum_le_card_nsmul _ _ _ fun j _ => hplace j
    _ < 2 ^ 32 := by simp

/-- The test for a non-digit finds one exactly where not every digit in use is 0 to 9 (R153, R154). -/
theorem hasNonDigit_iff (s : State) : s.hasNonDigit = true ↔ ¬s.digitsOk := by
  simp [hasNonDigit_eq_true_iff, State.digitsOk]

/-- GTINCD with no character, or with more than a payload holds (R153). -/
theorem gtincdBody_of_bad_len (s : State) (hbad : s.len.toNat < 1 ∨ 13 < s.len.toNat) :
    gtincdBody s = .error .eOperand := if_pos hbad

/-- GTINCD of an accepted length with a non-digit in use (R153). -/
theorem gtincdBody_of_nonDigit (s : State) (hge : 1 ≤ s.len.toNat) (hle : s.len.toNat ≤ 13) (hd : ¬s.digitsOk) :
    gtincdBody s = .error .eDigit := by
  rw [gtincdBody, if_neg (by omega), if_pos ((hasNonDigit_iff s).mpr hd)]

/-- GTINCD past its checks gives the check digit and the weighted sum (R153). -/
theorem gtincdBody_of_digitsOk (s : State) (hge : 1 ≤ s.len.toNat) (hle : s.len.toNat ≤ 13) (hd : s.digitsOk) :
    gtincdBody s = .ok (s.setResults (checkDigit s.paddedPayload) s.paddedSum) := by
  have hnone : ¬s.hasNonDigit = true := fun h => (hasNonDigit_iff s).mp h hd
  rw [gtincdBody, if_neg (by omega), if_neg hnone, gtinSum_paddedPayload]

/-- GTINVAL always completes, with the validity and the reason (R154). -/
theorem exec_gtinval_of_reason (s : State) {k : Nat} (hk : s.gtinReason = k) :
    exec .gtinval s = .next (s.setResults (if k = 0 then 1 else 0) k).successCompletion := by
  subst hk
  rfl

/-- Reason 1: the length is not 1 to 14 (R154). -/
theorem gtinReason_of_bad_len (s : State) (hbad : s.len.toNat < 1 ∨ 14 < s.len.toNat) : s.gtinReason = 1 :=
  if_pos hbad

/-- Past the length the reason is 2 where a digit in use is none (R154). -/
theorem gtinReason_of_nonDigit (s : State) (hge : 1 ≤ s.len.toNat) (hle : s.len.toNat ≤ 14) (hd : ¬s.digitsOk) :
    s.gtinReason = 2 := by
  have hlen : ¬(s.len.toNat < 1 ∨ Config.digits < s.len.toNat) :=
    not_or.mpr ⟨Nat.not_lt.mpr hge, Nat.not_lt.mpr hle⟩
  rw [State.gtinReason, if_neg hlen, if_pos ((hasNonDigit_iff s).mpr hd)]

/-- Past length and characters the reason is 3 exactly where, of 14 digits, `DIG(0)` is not the check digit (R154). -/
theorem gtinReason_of_digitsOk (s : State) (hge : 1 ≤ s.len.toNat) (hle : s.len.toNat ≤ 14) (hd : s.digitsOk) :
    s.gtinReason = if s.len.toNat = 14 ∧ s.digit 0 ≠ checkDigit s.fullPayload then 3 else 0 := by
  have hlen : ¬(s.len.toNat < 1 ∨ Config.digits < s.len.toNat) :=
    not_or.mpr ⟨Nat.not_lt.mpr hge, Nat.not_lt.mpr hle⟩
  have hnone : ¬s.hasNonDigit = true := fun h => (hasNonDigit_iff s).mp h hd
  rw [State.gtinReason, if_neg hlen, if_neg hnone]

/-- A value of 1 to 13 digits carries no check digit and is valid (R154). -/
theorem gtinReason_of_short (s : State) (hge : 1 ≤ s.len.toNat) (hle : s.len.toNat ≤ 13) (hd : s.digitsOk) :
    s.gtinReason = 0 := by
  rw [gtinReason_of_digitsOk s hge (by omega) hd, if_neg (by omega)]

/-- For 14 digits the reason follows from the sum of all of them, the check digit with weight 1 (R152, R154). -/
theorem gtinReason_of_full (s : State) (hlen : s.len.toNat = 14) (hd : s.digitsOk) :
    s.gtinReason = if (s.digit 0 + s.payloadSum) % 10 = 0 then 0 else 3 := by
  have hcheck := eq_checkDigit_iff s.fullPayload (hd 0 (by omega))
  rw [gtinSum_fullPayload] at hcheck
  rw [gtinReason_of_digitsOk s (by omega) (by omega) hd]
  simp only [hlen, true_and, ne_eq, hcheck, ite_not]

end Sys2Proof.Machine
end

section
/-! The statements about the GTIN unit (42_gtin.md R153, R154). -/

namespace Sys2Proof.Machine

/-- Settles O18: a clause for each outcome of the body; the check digit completes the sum (`checkDigit_add_gtinSum`), and
both results fit their registers. -/
theorem gtincdGivesCheckDigitOrRefuses : Obligations.GtincdGivesCheckDigitOrRefuses := by
  unfold Obligations.GtincdGivesCheckDigitOrRefuses
  refine ⟨decode_encode .gtincd, fun s => ?_⟩
  rw [exec_gtincd]
  refine ⟨fun hge hle hd => ?_, fun hbad => ?_, fun hge hle hd => ?_⟩
  · have hle9 := checkDigit_le s.paddedPayload
    have hsum := checkDigit_add_gtinSum s.paddedPayload
    rw [gtinSum_paddedPayload] at hsum
    rw [gtincdBody_of_digitsOk s hge hle hd]
    obtain ⟨t, ht, hres0, hres1, hframe⟩ :=
      complete_setResults s (hle9.trans_lt (by decide : 9 < 2 ^ 32)) (paddedSum_lt_word s)
    exact ⟨t, ht, hres1, hres0.trans_le hle9, hres0.symm ▸ hsum, hframe⟩
  · rw [gtincdBody_of_bad_len s hbad]
    exact complete_error_of_ne_eInvariant s (by decide)
  · rw [gtincdBody_of_nonDigit s hge hle hd]
    exact complete_error_of_ne_eInvariant s (by decide)

/-- Settles O19: a clause for each reason of `gtinReason`; the two about 14 digits are the two sides of
`gtinReason_of_full`. -/
theorem gtinvalAnswersWithReason : Obligations.GtinvalAnswersWithReason := by
  unfold Obligations.GtinvalAnswersWithReason
  refine ⟨decode_encode .gtinval, fun s => ⟨fun hbad => ?_, fun hge hle hd => ?_, fun hlen hd hsum => ?_,
    fun hlen hd hsum => ?_, fun hge hle hd => ?_⟩⟩
  · exact exec_gtinval_of_reason s (gtinReason_of_bad_len s hbad)
  · exact exec_gtinval_of_reason s (gtinReason_of_nonDigit s hge hle hd)
  · exact exec_gtinval_of_reason s ((gtinReason_of_full s hlen hd).trans (if_neg hsum))
  · exact exec_gtinval_of_reason s ((gtinReason_of_full s hlen hd).trans (if_pos hsum))
  · exact exec_gtinval_of_reason s (gtinReason_of_short s hge hle hd)

end Sys2Proof.Machine
end

section
/-! SUPPORT. What the two completions leave in `FATAL` and in the rest of the state (60_exceptions.md R166, R167,
R174). -/

namespace Sys2Proof.Machine

/-- After an error completion the block is fatal exactly if it was before or the error is `E_INVARIANT` (R167, R174). -/
theorem errorCompletion_fatal_iff (s : State) (e : ErrorCode) :
    (s.errorCompletion e).fatal = true ↔ s.fatal = true ∨ e = .eInvariant := by
  rw [State.errorCompletion_fatal, Bool.or_eq_true, beq_iff_eq]

/-- A successful completion leaves `ERR` as the acceptance left it, so an answer with `ERR` set comes from an error
completion; an answer without it comes from a successful one (R166, R167). -/
theorem exec_cases_of_err (i : Instr) (s t : State) (herr : s.err = false) (h : exec i s = .next t) :
    (t.err = false ∧
        t = { s with w := t.w, acc := t.acc, res0 := t.res0, res1 := t.res1, busy := false, done := true }) ∨
      (t.err = true ∧ ∃ e, t = s.errorCompletion e) := by
  rcases exec_cases i s t h with ⟨w, acc, res0, res1, rfl⟩ | ⟨e, rfl⟩
  · exact .inl ⟨herr, rfl⟩
  · exact .inr ⟨rfl, e, rfl⟩

end Sys2Proof.Machine
end

section
/-! The statement about completions (60_exceptions.md R166, R167). -/

namespace Sys2Proof.Machine

/-- Settles O26: `ERR` tells the two completions apart (`exec_cases_of_err`); a success is its own frame, and an error
completion records the code and sets `FATAL` for `E_INVARIANT` only (`errorCompletion_fatal_iff`). -/
theorem completionIsSuccessOrCleanError : Obligations.CompletionIsSuccessOrCleanError := by
  unfold Obligations.CompletionIsSuccessOrCleanError
  intro i s t herr _ ht
  rcases exec_cases_of_err i s t herr ht with ⟨hterr, hframe⟩ | ⟨hterr, e, rfl⟩
  · exact ⟨fun _ => hframe, fun hset => absurd (hterr.symm.trans hset) (by decide)⟩
  · exact ⟨fun hclear => absurd (hterr.symm.trans hclear) (by decide),
      fun _ => ⟨e, rfl, rfl, errorCompletion_fatal_iff s e⟩⟩

end Sys2Proof.Machine
end

section
/-! The statement about the soft reset (70_reset_and_hazards.md R192, R193). -/

namespace Sys2Proof.Machine

/-- Settles O40: out of reset a write of bit 31 of `CTRL` is the soft reset whatever is pending
(`ctrlWriteFollowsRule`), and the soft reset is by definition the state of R47's table with `WT` and the model's own
fields kept. -/
theorem softResetClearsAllButTable : Obligations.SoftResetClearsAllButTable := by
  unfold Obligations.SoftResetClearsAllButTable
  intro s v rest hrst hbit hag
  obtain ⟨hreset, -⟩ := ctrlWriteFollowsRule s v rest hrst hag
  calc step s = .next (State.softReset { s with agenda := rest }) := hreset hbit
    _ = _ := rfl

end Sys2Proof.Machine
end

section
/-! SUPPORT. The address map read backwards: where the place stands that an offset names (10_state.md R47,
20_memory.md R71). -/

namespace Sys2Proof.Machine

/-- A word-aligned offset that is not reserved is the offset of the place it names (R47, R71). -/
theorem offset_locate (a : Nat) (halign : a % 4 = 0) (hplace : locate a ≠ .reserved) : (locate a).offset = a := by
  unfold locate at hplace ⊢
  split_ifs with hwt hw
  · simp only [Loc.offset, Fin.val_ofNat]
    omega
  · simp only [Loc.offset, Fin.val_ofNat]
    omega
  · rw [if_neg hwt, if_neg hw] at hplace
    split at hplace
    case h_20 => exact absurd rfl hplace
    all_goals rfl

/-- The word-aligned offsets of the window that are reserved (R47). -/
theorem locate_eq_reserved_iff (a : Nat) (halign : a % 4 = 0) :
    locate a = .reserved ↔ (0x04C ≤ a ∧ a ≤ 0x05C) ∨ (0x080 ≤ a ∧ a ≤ 0x0FC) ∨ 0x200 ≤ a := by
  refine ⟨fun hres => ?_, locate_reserved a⟩
  unfold locate at hres
  split_ifs at hres
  split at hres
  case h_20 =>
    simp only [imp_false] at *
    omega
  all_goals cases hres

end Sys2Proof.Machine
end

section
/-! SUPPORT. The eight commands under one name: what each can write, and what each can raise (30_encoding.md R92,
60_exceptions.md R170). -/

namespace Sys2Proof.Machine

/-- A command up to its completion, whichever of the eight it is (60_exceptions.md R165). -/
def commandBody (i : Instr) (s : State) : Except ErrorCode State :=
  match i with
  | .comb => combBody s
  | .widths => widthsBody s
  | .ckclr => ckclrBody s
  | .ckmac => ckmacBody s
  | .ckred => ckredBody s
  | .ckfin => ckfinBody s
  | .gtincd => gtincdBody s
  | .gtinval => gtinvalBody s

/-- Every command answers the completion of its body. -/
theorem exec_eq_complete (i : Instr) (s : State) : exec i s = complete s (commandBody i s) := by
  cases i <;> rfl

/-- The commands that write `RES0` and `RES1` (30_encoding.md R92). -/
def writesResults : Instr → Bool
  | .comb | .ckred | .ckfin | .gtincd | .gtinval => true
  | .widths | .ckclr | .ckmac => false

/-- Those commands by name. -/
theorem writesResults_iff (i : Instr) :
    writesResults i = true ↔ i = .comb ∨ i = .ckred ∨ i = .ckfin ∨ i = .gtincd ∨ i = .gtinval := by
  cases i <;> decide

/-- What a successful command writes: WIDTHS the vector, CKCLR and CKMAC the accumulator, the others the two results
(R92, 10_state.md R43). -/
inductive CommandWrites (s : State) : Instr → State → Prop
  | widths (out : List Nat) : CommandWrites s .widths (s.setWidths out)
  | clears : CommandWrites s .ckclr (s.setAcc 0)
  | adds (x : Nat) : CommandWrites s .ckmac (s.setAcc x)
  | results (i : Instr) (x y : Nat) (hi : writesResults i = true) : CommandWrites s i (s.setResults x y)

/-- A body that runs to its end makes its command's writes. -/
theorem commandBody_ok (i : Instr) (s u : State) (h : commandBody i s = .ok u) : CommandWrites s i u := by
  cases i with
  | comb =>
    rcases combBody_cases s with ⟨-, hb⟩ | ⟨-, -, hb⟩ <;> cases hb.symm.trans h
    exact .results _ _ _ rfl
  | widths =>
    obtain ⟨out, rfl⟩ := widthsBody_ok s u h
    exact .widths out
  | ckclr =>
    cases h
    exact .clears
  | ckmac =>
    rcases ckmacBody_cases s with ⟨-, hb⟩ | ⟨-, ⟨-, hb⟩ | ⟨-, -, ⟨-, hb⟩ | ⟨-, hb⟩⟩⟩ <;> cases hb.symm.trans h
    exact .adds _
  | ckred =>
    rcases ckredBody_cases s with ⟨-, hb⟩ | ⟨m, -, hb⟩ <;> cases hb.symm.trans h
    exact .results _ _ _ rfl
  | ckfin =>
    rcases ckfinBody_cases s with ⟨-, hb⟩ | ⟨-, hb⟩ | ⟨-, -, hb⟩ | ⟨-, -, hb⟩ | ⟨-, hb⟩ <;> cases hb.symm.trans h
    all_goals exact .results _ _ _ rfl
  | gtincd =>
    rcases gtincdBody_cases s with ⟨-, hb⟩ | ⟨-, -, ⟨-, hb⟩ | ⟨-, hb⟩⟩ <;> cases hb.symm.trans h
    exact .results _ _ _ rfl
  | gtinval =>
    cases h
    exact .results _ _ _ rfl

/-- A body that raises does so with a code that the table lists for its command (R170). -/
theorem commandBody_error (i : Instr) (s : State) (e : ErrorCode) (h : commandBody i s = .error e) :
    e.code.toNat ∈ errorCodesOf i := by
  cases i with
  | comb =>
    rcases combBody_cases s with ⟨-, hb⟩ | ⟨-, -, hb⟩ <;> cases hb.symm.trans h
    decide
  | widths =>
    rcases widthsBody_cases s with ⟨-, hb⟩ | ⟨-, ⟨e', hplace, hb⟩ | ⟨out, -, ⟨-, hb⟩ | ⟨-, hb⟩⟩⟩ <;>
      cases hb.symm.trans h
    · decide
    · cases placeWidths_error _ _ _ _ _ _ _ hplace
      decide
    · decide
  | ckclr => cases h
  | ckmac =>
    rcases ckmacBody_cases s with ⟨-, hb⟩ | ⟨-, ⟨-, hb⟩ | ⟨-, -, ⟨-, hb⟩ | ⟨-, hb⟩⟩⟩ <;> cases hb.symm.trans h
    all_goals decide
  | ckred =>
    rcases ckredBody_cases s with ⟨-, hb⟩ | ⟨m, -, hb⟩ <;> cases hb.symm.trans h
    decide
  | ckfin =>
    rcases ckfinBody_cases s with ⟨-, hb⟩ | ⟨-, hb⟩ | ⟨-, -, hb⟩ | ⟨-, -, hb⟩ | ⟨-, hb⟩ <;> cases hb.symm.trans h
    all_goals decide
  | gtincd =>
    rcases gtincdBody_cases s with ⟨-, hb⟩ | ⟨-, -, ⟨-, hb⟩ | ⟨-, hb⟩⟩ <;> cases hb.symm.trans h
    all_goals decide
  | gtinval => cases h

end Sys2Proof.Machine
end

section
/-! SUPPORT. Everything one step can do to a state, as one relation (20_memory.md R83, 60_exceptions.md R165): the
statements about what steps keep are case splits on it. -/

namespace Sys2Proof.Machine

/-- The state whose first event has been taken: what every event acts on (R83; log entry 1). -/
abbrev State.advance (s : State) : State := { s with agenda := s.agenda.tail }

/-- The next event is a change of the reset pin (70_reset_and_hazards.md R190). -/
def State.pinNext (s : State) (level : Bool) : Prop := ∃ rest, s.agenda = .rstPin level :: rest

/-- What one step can do: one constructor per kind of event and per branch of its rule. -/
inductive StepEffect (s : State) : State → Prop
  /-- The pending command runs to its end (R166). -/
  | succeeds (i : Instr) (u : State) (hpend : s.completesAs i) (hwrites : CommandWrites s.advance i u) :
      StepEffect s u.successCompletion
  /-- The pending command raises an error (R167). -/
  | raises (i : Instr) (e : ErrorCode) (hpend : s.completesAs i) (hbody : commandBody i s.advance = .error e) :
      StepEffect s (s.advance.errorCompletion e)
  /-- The pending word is illegal (30_encoding.md R93, R94). -/
  | illegal (hpend : s.completesNext) : StepEffect s (s.advance.errorCompletion .eOpcode)
  /-- Nothing happens: no command to complete, a write to a read-only place or under the held reset, or the pin driven
  high while it is high (20_memory.md R79, 70 R190, R191). -/
  | idle : StepEffect s s.advance
  /-- A read (20_memory.md R72). -/
  | reads (d : Word) : StepEffect s { s.advance with lastRead := d }
  /-- The pin makes a hard reset (70 R191). -/
  | pin (level : Bool) (hnext : s.pinNext level) : StepEffect s { s.advance.hardReset with rstN := level }
  /-- A soft reset (70 R192). -/
  | soft (v : Word) (hwr : s.hostWrites 0x004 v) (hbit : v.getLsbD 31 = true) : StepEffect s s.advance.softReset
  /-- A write to `CTRL` without bit 31 (20_memory.md R75). -/
  | ctrl (v : Word) (hwr : s.hostWrites 0x004 v) :
      StepEffect s { s.advance with ie := v.getLsbD 0, wtlock := s.wtlock || v.getLsbD 1 }
  /-- An acknowledgement, `WRIGN` being cleared or kept (R76). -/
  | acknowledges (v : Word) (hwr : s.hostWrites 0x008 v) (hbit : v.getLsbD 1 = true) (hidle : s.busy = false) :
      StepEffect s { s.advance.acknowledge with wrign := s.wrign && !v.getLsbD 4 }
  /-- A write to `STATUS` that acknowledges nothing (R76). -/
  | status (v : Word) (hwr : s.hostWrites 0x008 v) : StepEffect s { s.advance with wrign := s.wrign && !v.getLsbD 4 }
  /-- A discarded write (R74, R77, R78). -/
  | discards (hnext : s.discardsNext) : StepEffect s s.advance.discardWrite
  /-- The acceptance of a command word (R77). -/
  | accepts (v : Word) (hwr : s.hostWrites 0x00C v) (hfatal : s.fatal = false) (hidle : s.busy = false) :
      StepEffect s (s.advance.acceptCommand v)
  /-- A write of an operand register (R74). -/
  | operand (o : OperandReg) (v : Word) (hwr : s.hostWrites o.offset v) (hidle : s.busy = false) :
      StepEffect s (s.advance.setOperand v o)
  /-- A write of an entry of `W` (R74). -/
  | width (i : Fin 8) (v : Word) (hwr : s.hostWrites (0x060 + 4 * i.val) v) (hidle : s.busy = false) :
      StepEffect s (s.advance.setWidth i v)
  /-- A write of a word of `WT` (R78). -/
  | weight (r : Fin 32) (h : Fin 2) (v : Word) (hwr : s.hostWrites (0x100 + 8 * r.val + 4 * h.val) v)
      (hidle : s.busy = false) (hlock : s.wtlock = false) : StepEffect s (s.advance.setWeightWord r h v)

/-- With the engine's turn next, what stays of the agenda is its tail. -/
theorem engineNext_tail (s : State) (rest : List Event) (h : s.engineNext rest) : rest = s.agenda.tail := by
  rcases h with ⟨hag, rfl⟩ | hag <;> simp [hag]

/-- With the engine's turn next, a step is that turn on the rest of the agenda. -/
theorem step_engine_advance (s : State) (rest : List Event) (h : s.engineNext rest) :
    step s = engineTurn s.advance := by
  rw [step_engineNext s rest h, engineNext_tail s rest h]

/-- The engine's turn is a completion of what is pending, or nothing (R165). -/
theorem engineTurn_effect (s t : State) (rest : List Event) (hnext : s.engineNext rest)
    (h : engineTurn s.advance = .next t) : StepEffect s t := by
  rcases engineTurn_eq_next _ _ h with ⟨hbusy, hrst, hturn⟩ | ⟨-, rfl⟩
  · have hpend : s.completesNext := ⟨hbusy, hrst, rest, hnext⟩
    rcases hturn with ⟨i, hdec, hexec⟩ | ⟨why, hdec, rfl⟩
    · rw [exec_eq_complete] at hexec
      rcases (complete_eq_next_iff _ _ _).mp hexec with ⟨u, hu, rfl⟩ | ⟨e, he, rfl⟩
      · exact .succeeds i u ⟨hpend, hdec⟩ (commandBody_ok i _ u hu)
      · exact .raises i e ⟨hpend, hdec⟩ he
    · exact .illegal hpend
  · exact .idle

/-- A write that reaches a place which is discarded while busy is so recorded, whatever the place (R74, R77, R78). -/
theorem discardsNext_of_busy (s : State) (a : Nat) (v : Word) (hwr : s.hostWrites a v) (hbusy : s.busy = true)
    (ha : (0x00C ≤ a ∧ a ≤ 0x03C) ∨ (0x060 ≤ a ∧ a ≤ 0x07C) ∨ (0x100 ≤ a ∧ a ≤ 0x1FC)) : s.discardsNext :=
  ⟨a, v, hwr, .inl ⟨hbusy, ha⟩⟩

/-- The operand registers stand from `0x010` to `0x03C` (10_state.md R47). -/
theorem OperandReg.offset_bounds (o : OperandReg) : 0x010 ≤ o.offset ∧ o.offset ≤ 0x03C := by
  cases o <;> decide

/-- A write of an operand register changes no other state (20_memory.md R74). -/
theorem setOperand_eq (s : State) (v : Word) (o : OperandReg) :
    s.setOperand v o = s.withOperandsOf (s.setOperand v o) := by
  cases o <;> rfl

/-- The effect of a write at the offset of a place, out of reset (R73 to R79). -/
theorem writeLoc_effect (s : State) (v : Word) (l : Loc) (hwr : s.hostWrites l.offset v) :
    StepEffect s (s.advance.writeLoc v l) := by
  cases l with
  | id | acc | res0 | res1 | reserved => exact .idle
  | ctrl =>
    show StepEffect s (s.advance.writeCtrl v)
    rcases writeCtrl_cases s.advance v with ⟨hbit, heq⟩ | ⟨-, heq⟩
    · exact heq ▸ .soft v hwr hbit
    · exact heq ▸ .ctrl v hwr
  | status =>
    show StepEffect s (s.advance.writeStatus v)
    rcases writeStatus_cases s.advance v with ⟨hbit, hidle, heq⟩ | ⟨-, heq⟩
    · exact heq ▸ .acknowledges v hwr hbit hidle
    · exact heq ▸ .status v hwr
  | cmd =>
    show StepEffect s (s.advance.writeCmd v)
    rcases writeCmd_cases s.advance v with ⟨hfatal | hbusy, heq⟩ | ⟨hfatal, hidle, heq⟩
    · exact heq ▸ .discards ⟨_, v, hwr, .inr (.inl ⟨hfatal, rfl⟩)⟩
    · exact heq ▸ .discards (discardsNext_of_busy s _ v hwr hbusy (by decide))
    · exact heq ▸ .accepts v hwr hfatal hidle
  | operand o =>
    cases hbusy : s.busy with
    | true =>
      rw [writeLoc_operand_busy s.advance v o hbusy]
      have hoff : (Loc.operand o).offset = o.offset := rfl
      have := o.offset_bounds
      exact .discards (discardsNext_of_busy s _ v hwr hbusy (by omega))
    | false =>
      rw [writeLoc_operand_idle s.advance v o hbusy]
      exact .operand o v hwr hbusy
  | w i =>
    cases hbusy : s.busy with
    | true =>
      rw [writeLoc_width_busy s.advance v i hbusy]
      exact .discards (discardsNext_of_busy s _ v hwr hbusy (by simp only [Loc.offset]; omega))
    | false =>
      rw [writeLoc_width_idle s.advance v i hbusy]
      exact .width i v hwr hbusy
  | wt r h =>
    cases hbusy : s.busy with
    | true =>
      rw [writeLoc_weight_discarded s.advance v r h (.inl hbusy)]
      exact .discards (discardsNext_of_busy s _ v hwr hbusy (by simp only [Loc.offset]; omega))
    | false =>
      cases hlock : s.wtlock with
      | true =>
        rw [writeLoc_weight_discarded s.advance v r h (.inr hlock)]
        exact .discards ⟨_, v, hwr, .inr (.inr ⟨hlock, by simp only [Loc.offset]; omega⟩)⟩
      | false =>
        rw [writeLoc_weight_stored s.advance v r h hbusy hlock]
        exact .weight r h v hwr hbusy hlock

/-- The effect of a write event that the port can express (R73, R191). -/
theorem hostWrite_effect (s t : State) (a bytes : Nat) (v : Word) (rest : List Event)
    (hag : s.agenda = .write a bytes v :: rest) (h : hostWrite s.advance a bytes v = .next t) : StepEffect s t := by
  obtain ⟨hexp, rfl⟩ := (hostWrite_eq_next_iff _ _ _ _ _).mp h
  simp only [expressible, Bool.and_eq_true, beq_iff_eq, decide_eq_true_eq] at hexp
  obtain ⟨⟨rfl, halign⟩, -⟩ := hexp
  split
  · by_cases hres : locate a = .reserved
    · rw [hres]
      exact .idle
    · rename_i hrst
      refine writeLoc_effect s v (locate a) ⟨hrst, rest, ?_⟩
      rw [offset_locate a halign hres, hag]
  · exact .idle

/-- Every step that answers a next state is one of the effects (R83). -/
theorem step_effect (s t : State) (h : step s = .next t) : StepEffect s t := by
  have htail {ev : Event} {rest : List Event} (hag : s.agenda = ev :: rest) :
      { s with agenda := rest } = s.advance := by
    rw [State.advance, hag, List.tail_cons]
  rcases step_eq_next s t h with ⟨hag, -⟩ | ⟨ev, rest, hag, hev⟩
  · have hnext : s.engineNext [] := .inl ⟨hag, rfl⟩
    exact engineTurn_effect s t [] hnext ((step_engine_advance s [] hnext).symm.trans h)
  · rw [htail hag] at hev
    rcases hev with ⟨rfl, hturn⟩ | ⟨a, bytes, rfl, hread⟩ | ⟨a, bytes, v, rfl, hwrite⟩ | ⟨level, rfl, rfl⟩
    · exact engineTurn_effect s t rest (.inr hag) hturn
    · obtain ⟨-, rfl⟩ := (hostRead_eq_next_iff _ _ _ _).mp hread
      exact .reads _
    · exact hostWrite_effect s t a bytes v rest hag hwrite
    · rcases driveReset_cases s.advance level with ⟨-, -, heq⟩ | ⟨-, heq⟩
      · rw [heq]
        exact .idle
      · rw [heq]
        exact .pin level ⟨rest, hag⟩

end Sys2Proof.Machine
end

section
/-! SUPPORT. The flags after each effect, and the effects that are resets (70_reset_and_hazards.md R190). -/

namespace Sys2Proof.Machine

/-- A command's writes leave everything but `W`, `ACC`, `RES0` and `RES1` (60_exceptions.md R166). -/
theorem CommandWrites.frame {s u : State} {i : Instr} (h : CommandWrites s i u) :
    u = { s with w := u.w, acc := u.acc, res0 := u.res0, res1 := u.res1 } := by
  cases h <;> rfl

/-- A change of the pin is a reset (R190). -/
theorem State.pinNext.resetNext {s : State} {level : Bool} (h : s.pinNext level) : s.resetNext := by
  obtain ⟨rest, hag⟩ := h
  exact ⟨_, rest, hag, rfl⟩

/-- A write of bit 31 of `CTRL` is a reset (R190). -/
theorem State.hostWrites.resetNext {s : State} {v : Word} (h : s.hostWrites 0x004 v) (hbit : v.getLsbD 31 = true) :
    s.resetNext := by
  obtain ⟨-, rest, hag⟩ := h
  exact ⟨_, rest, hag, by simpa [eventIsReset] using hbit⟩

/-- An error completion leaves consistent flags, whatever the state and the error (60_exceptions.md R167, R170). -/
theorem statusConsistent_errorCompletion (s : State) (e : ErrorCode) : (s.errorCompletion e).statusConsistent :=
  ⟨by simp, fun _ => ⟨rfl, e.code_ne_zero⟩, by simp, e.code_le⟩

/-- With `DONE`, `ERR` and `ECODE` clear the flags are consistent, busy or not (10_state.md R39). -/
theorem statusConsistent_of_clear (s : State) (hdone : s.done = false) (herr : s.err = false) (hcode : s.ecode = 0) :
    s.statusConsistent :=
  ⟨by simp [hdone], by simp [herr], fun _ => hcode, by simp [hcode]⟩

/-- While busy, consistent flags carry no error: `DONE` is 0, so `ERR` and `ECODE` are (R39). -/
theorem err_and_ecode_of_busy (s : State) (h : s.statusConsistent) (hbusy : s.busy = true) :
    s.err = false ∧ s.ecode = 0 := by
  obtain ⟨hexcl, herr, hnone, -⟩ := h
  have hclear : s.err = false := Bool.eq_false_iff.mpr fun hset => hexcl ⟨hbusy, (herr hset).1⟩
  exact ⟨hclear, hnone hclear⟩

end Sys2Proof.Machine
end

section
/-! The statement about the status flags (10_state.md R39). -/

namespace Sys2Proof.Machine

/-- Settles O43: a completion clears `BUSY`, an acceptance and a reset clear the three others, and a success finds no
error left over because it was busy; every other effect leaves the four flags alone. -/
theorem statusConsistencyIsKept : Obligations.StatusConsistencyIsKept := by
  unfold Obligations.StatusConsistencyIsKept
  intro s t hs hstep
  cases step_effect s t hstep with
  | succeeds i u hpend hwrites =>
    obtain ⟨⟨hbusy, -⟩, -⟩ := hpend
    obtain ⟨herr, hcode⟩ := err_and_ecode_of_busy s hs hbusy
    rw [hwrites.frame]
    exact ⟨by simp, by simp [herr], fun _ => hcode, by simp [hcode]⟩
  | raises i e hpend hbody => exact statusConsistent_errorCompletion _ e
  | illegal hpend => exact statusConsistent_errorCompletion _ .eOpcode
  | pin level hnext => exact statusConsistent_of_clear _ rfl rfl rfl
  | soft v hwr hbit => exact statusConsistent_of_clear _ rfl rfl rfl
  | acknowledges v hwr hbit hidle => exact statusConsistent_of_clear _ rfl rfl rfl
  | accepts v hwr hfatal hidle => exact statusConsistent_of_clear _ rfl rfl rfl
  | operand o v hwr hidle =>
    rw [setOperand_eq]
    exact hs
  | _ => exact hs

end Sys2Proof.Machine
end


section
/-! SUPPORT. The counts of WIDTHS in closed form (40_combinatorics.md R118, R122): the number of ways to finish a
vector is the sum, over the width of the next element, of the ways to finish it from there. -/

namespace Sys2Proof.Machine

/-- A sum from `lo` to `hi`, as a sum over an interval (00_scope.md R8). -/
theorem sumFromTo_eq_sum (lo hi : Nat) (f : Nat → Nat) : sumFromTo lo hi f = ∑ j ∈ Finset.Ico lo (hi + 1), f j :=
  rfl

/-- The column sum of binomial coefficients, downwards: what is left out at the end is the coefficient there. -/
theorem sum_Ico_choose_add (R q a b : Nat) (hab : a ≤ b) (hb : b ≤ R + 1) :
    (∑ w ∈ Finset.Ico a b, (R - w).choose q) + (R + 1 - b).choose (q + 1) = (R + 1 - a).choose (q + 1) := by
  induction b, hab using Nat.le_induction with
  | base => simp
  | succ b hab ih =>
    have hpascal : (R + 1 - b).choose (q + 1) = (R - b).choose q + (R - b).choose (q + 1) := by
      rw [Nat.succ_sub (by omega), Nat.choose_succ_succ']
    rw [Finset.sum_Ico_succ_top hab, ← ih (by omega), hpascal, Nat.add_sub_add_right, add_assoc]

/-- The ways to split `D` into a first part of at least `a` and `q + 1` more positive parts, summed over the first
part, which may run to any bound that leaves none of them out. -/
theorem sum_first_part (D q a b : Nat) (hb : D ≤ b + q) :
    (∑ w ∈ Finset.Ico a b, if w + q + 1 ≤ D then (D - w - 1).choose q else 0) = (D - a).choose (q + 1) := by
  have hfilter : (Finset.Ico a b).filter (fun w => w + q + 1 ≤ D) = Finset.Ico a (D - q) := by
    ext w
    simp only [Finset.mem_filter, Finset.mem_Ico]
    omega
  rw [← Finset.sum_filter, hfilter]
  rcases Nat.lt_or_ge a (D - q) with hlt | hge
  · have hcol := sum_Ico_choose_add (D - 1) q a (D - q) hlt.le (by omega)
    have htop : D - 1 + 1 = D := by omega
    have hrest : (D - (D - q)).choose (q + 1) = 0 := Nat.choose_eq_zero_of_lt (by omega)
    rw [htop, hrest, add_zero] at hcol
    simpa only [Nat.sub_right_comm D 1] using hcol
  · rw [Finset.Ico_eq_empty (by omega), Finset.sum_empty, Nat.choose_eq_zero_of_lt (by omega)]

/-- The sum of R118's `over` and of R122 (4) in one coefficient: the ways in which a part that is named exceeds `m`. -/
theorem sumFromTo_over (m R q : Nat) :
    sumFromTo (m + 1) (R - (q + 1)) (fun j => binomial (R - j - 1) q) =
      if m < R then (R - m - 1).choose (q + 1) else 0 := by
  simp only [sumFromTo_eq_sum, binomial_eq_choose]
  rcases Nat.lt_or_ge (m + 1) (R - q) with hlt | hge
  · have hcol := sum_Ico_choose_add (R - 1) q (m + 1) (R - q) (by omega) (by omega)
    have hrest : (R - 1 + 1 - (R - q)).choose (q + 1) = 0 := Nat.choose_eq_zero_of_lt (by omega)
    have htop : R - (q + 1) + 1 = R - q := by omega
    have hbot : R - 1 + 1 - (m + 1) = R - m - 1 := by omega
    rw [hrest, add_zero, hbot] at hcol
    rw [htop, if_pos (by omega), ← hcol]
    simp only [Nat.sub_right_comm R 1]
  · rw [Finset.Ico_eq_empty (by omega), Finset.sum_empty]
    split_ifs
    · exact (Nat.choose_eq_zero_of_lt (by omega)).symm
    · rfl

/-- The ways to finish a vector of `WIDTHS`: `k` elements of sum `rem` are left, and `narrow` says whether an earlier
one is 1. The closed form of R122 (4) at every position; R118's terms in its order. -/
def finishCount (m : Nat) (x : Bool) (k rem : Nat) (narrow : Bool) : Int :=
  ((rem - 1).choose (k - 1) : Int)
    - (if x = true ∧ narrow = false ∧ 2 * k ≤ rem then (rem - k - 1).choose (k - 1) else 0 : Nat)
    - (k * (if m < rem then (rem - m - 1).choose (k - 1) else 0) : Nat)

/-- What the checks of R116 give at every position of a vector (R122): not two parts that exceed `m`, and no part that
exceeds `m` beside parts of at least 2 where a narrow one is still asked for. -/
structure InRegion (m : Nat) (x : Bool) (k rem : Nat) (narrow : Bool) : Prop where
  room : k ≤ rem
  oneOver : rem < 2 * m + k
  narrowOrFits : x = true → narrow = false → rem + 1 < m + 2 * k

/-- The region is kept from one position to the next (R122). -/
theorem InRegion.next {m : Nat} {x : Bool} {k rem : Nat} {narrow : Bool} (h : InRegion m x (k + 1) rem narrow)
    {w : Nat} (hw : 1 ≤ w) (hroom : w + k ≤ rem) : InRegion m x k (rem - w) (narrow || w == 1) := by
  obtain ⟨-, hone, hfits⟩ := h
  refine ⟨by omega, by omega, fun hx hnarrow => ?_⟩
  simp only [Bool.or_eq_false_iff, beq_eq_false_iff_ne] at hnarrow
  have := hfits hx hnarrow.1
  omega

/-- `SubCount` is the number of ways to finish the vector from the next position on (R118, R122 (1)). -/
theorem subCount_eq_finishCount (m : Nat) (x : Bool) (k rem w : Nat) (narrow : Bool) (hk : 1 ≤ k) (hw : w + k ≤ rem) :
    subCount rem (k + 1) w narrow m x = finishCount m x k (rem - w) (narrow || w == 1) := by
  have hnonarrow : nonarrowCount rem (k + 1) w narrow x =
      if x = true ∧ (narrow || w == 1) = false ∧ 2 * k ≤ rem - w then (rem - w - k - 1).choose (k - 1) else 0 := by
    have hparts : k + 1 - 1 ≤ rem - w - (k + 1 - 1) ↔ 2 * k ≤ rem - w := by omega
    simp only [nonarrowCount, hparts, binomial_eq_choose, Bool.or_eq_false_iff, beq_eq_false_iff_ne, and_assoc]
    rfl
  have hover : overCount rem (k + 1) w m = k * if m < rem - w then (rem - w - m - 1).choose (k - 1) else 0 := by
    obtain _ | _ | q := k
    · omega
    · simp [overCount]
    · exact congrArg _ (sumFromTo_over m (rem - w) q)
  rw [subCount, hnonarrow, hover, allCount, binomial_eq_choose]
  rfl

/-- The size of the domain is the number of ways to make a whole vector (R122 (4)). -/
theorem domainSize_eq_finishCount (n k m : Nat) (x : Bool) (hk : 2 ≤ k) (hn : k ≤ n) :
    domainSize n k m x = finishCount m x k n false := by
  obtain ⟨q, rfl⟩ := Nat.exists_eq_add_of_le' hk
  have htop : n - (q + 2) + 1 = n - (q + 1) := by omega
  have hover := sumFromTo_over m n q
  rw [domainSize, finishCount, htop, Nat.add_sub_cancel, hover]
  simp only [binomial_eq_choose, true_and]
  push_cast
  ring

/-- The ways without limits, summed over the next element: those with it above `m` are left over (R118 `all`). -/
theorem sum_all (m q rem : Nat) (hroom : q + 2 ≤ rem) :
    (∑ w ∈ Finset.Ico 1 (1 + min (rem - (q + 1)) m), (rem - w - 1).choose q) +
      (if m < rem then (rem - m - 1).choose (q + 1) else 0) = (rem - 1).choose (q + 1) := by
  have hcol := sum_Ico_choose_add (rem - 1) q 1 (1 + min (rem - (q + 1)) m) (by omega) (by omega)
  have hrest : (rem - 1 + 1 - (1 + min (rem - (q + 1)) m)).choose (q + 1) =
      if m < rem then (rem - m - 1).choose (q + 1) else 0 := by
    rcases Nat.lt_or_ge m (rem - (q + 1)) with hlt | hge
    · rw [if_pos (by omega), min_eq_right hlt.le]
      congr 1
      omega
    · rw [min_eq_left hge, Nat.choose_eq_zero_of_lt (by omega)]
      split_ifs
      · exact (Nat.choose_eq_zero_of_lt (by omega)).symm
      · rfl
  rw [hrest, Nat.add_sub_cancel] at hcol
  simpa only [Nat.sub_right_comm rem 1] using hcol

/-- The ways in which one named later part exceeds `m`, summed over the next element (R118 `over`). -/
theorem sum_over (m q rem : Nat) (hone : rem < 2 * m + (q + 2)) :
    (∑ w ∈ Finset.Ico 1 (1 + min (rem - (q + 1)) m), if m < rem - w then (rem - w - m - 1).choose q else 0) =
      if m < rem then (rem - m - 1).choose (q + 1) else 0 := by
  have hterm (w : Nat) : (if m < rem - w then (rem - w - m - 1).choose q else 0) =
      if w + q + 1 ≤ rem - m then (rem - m - w - 1).choose q else 0 := by
    rw [Nat.sub_right_comm rem w m]
    split_ifs
    · rfl
    · exact Nat.choose_eq_zero_of_lt (by omega)
    · omega
    · rfl
  simp only [hterm]
  rw [sum_first_part (rem - m) q _ _ (by omega)]
  split_ifs
  · rfl
  · exact Nat.choose_eq_zero_of_lt (by omega)

/-- The ways in which every part is at least 2, this element included, summed over it (R118 `nonarrow`). -/
theorem sum_nonarrow (m q rem : Nat) (x narrow : Bool)
    (hfits : x = true → narrow = false → rem + 1 < m + 2 * (q + 2)) :
    (∑ w ∈ Finset.Ico 1 (1 + min (rem - (q + 1)) m),
        if x = true ∧ (narrow || w == 1) = false ∧ 2 * (q + 1) ≤ rem - w then (rem - w - (q + 1) - 1).choose q else 0) =
      if x = true ∧ narrow = false ∧ 2 * (q + 2) ≤ rem then (rem - (q + 2) - 1).choose (q + 1) else 0 := by
  by_cases hx : x = true ∧ narrow = false
  · obtain ⟨rfl, rfl⟩ := hx
    have hbound := hfits rfl rfl
    have hfirst := sum_first_part (rem - (q + 1)) q 2 (1 + min (rem - (q + 1)) m) (by omega)
    have hterm (w : Nat) (hw : 2 ≤ w) :
        (if true = true ∧ (false || w == 1) = false ∧ 2 * (q + 1) ≤ rem - w then (rem - w - (q + 1) - 1).choose q
          else 0) = if w + q + 1 ≤ rem - (q + 1) then (rem - (q + 1) - w - 1).choose q else 0 := by
      have hne : (false || w == 1) = false := by simp only [Bool.false_or, beq_eq_false_iff_ne]; omega
      have hcond : 2 * (q + 1) ≤ rem - w ↔ w + q + 1 ≤ rem - (q + 1) := by omega
      simp only [hne, true_and, hcond, Nat.sub_right_comm rem w]
    rw [← Finset.sum_subset (Finset.Ico_subset_Ico_left (by omega : 1 ≤ 2))]
    · rw [Finset.sum_congr rfl fun w hw => hterm w (Finset.mem_Ico.mp hw).1, hfirst]
      simp only [true_and]
      split_ifs with hlarge
      · congr 1
      · exact Nat.choose_eq_zero_of_lt (by omega)
    · intro w hw hnot
      simp only [Finset.mem_Ico, not_and_or] at hw hnot
      obtain rfl : w = 1 := by omega
      simp
  · have hnone (w : Nat) : ¬(x = true ∧ (narrow || w == 1) = false ∧ 2 * (q + 1) ≤ rem - w) := fun h =>
      hx ⟨h.1, (Bool.or_eq_false_iff.mp h.2.1).1⟩
    simp only [hnone, if_false, Finset.sum_const_zero]
    rw [if_neg fun h => hx ⟨h.1, h.2.1⟩]

/-- The ways to finish a vector, by the width of its next element: the sum of the counts of the candidates of R117 is
the count at this position (R122). -/
theorem finishCount_succ (m : Nat) (x : Bool) (k rem : Nat) (narrow : Bool) (hk : 1 ≤ k)
    (hreg : InRegion m x (k + 1) rem narrow) :
    finishCount m x (k + 1) rem narrow =
      ∑ w ∈ Finset.Ico 1 (1 + min (rem - k) m), finishCount m x k (rem - w) (narrow || w == 1) := by
  obtain ⟨q, rfl⟩ := Nat.exists_eq_add_of_le' hk
  obtain ⟨hroom, hone, hfits⟩ := hreg
  have hall := sum_all m q rem hroom
  have hover := sum_over m q rem hone
  have hnonarrow := sum_nonarrow m q rem x narrow hfits
  simp only [finishCount, Finset.sum_sub_distrib, ← Nat.cast_sum, ← Finset.mul_sum, Nat.add_sub_cancel]
  rw [hover, hnonarrow, ← hall]
  push_cast
  ring

end Sys2Proof.Machine
end

section
/-! SUPPORT. The search of WIDTHS and its inverse (40_combinatorics.md R117, R121): below the count the search finds
the vector of that rank, at or above it the search fails, and a vector's rank leads back to it. -/

namespace Sys2Proof.Machine

/-- The counts passed over to reach width `w` (R121). -/
theorem countBelow_eq_sum (rem k : Nat) (narrow : Bool) (m : Nat) (x : Bool) (w : Nat) :
    countBelow rem k narrow m x w = ∑ c ∈ Finset.Ico 1 w, subCount rem k c narrow m x := rfl

section Search

variable {rem k m left w : Nat} {narrow x : Bool} {val : Int}

/-- A value below the sum of the candidates' counts finds the candidate in whose count it falls (R117). -/
theorem findWidth_of_lt (hval : 0 ≤ val) (hlt : val < ∑ c ∈ Finset.Ico w (w + left), subCount rem k c narrow m x) :
    ∃ w' val', findWidth rem k narrow m x left w val = .ok (w', val') ∧ w ≤ w' ∧ w' < w + left ∧ 0 ≤ val' ∧
      val' < subCount rem k w' narrow m x ∧ val = ∑ c ∈ Finset.Ico w w', subCount rem k c narrow m x + val' := by
  induction left generalizing w val with
  | zero =>
    rw [Nat.add_zero, Finset.Ico_self, Finset.sum_empty] at hlt
    omega
  | succ left ih =>
    rw [findWidth]
    by_cases hhere : val < subCount rem k w narrow m x
    · exact ⟨w, val, if_pos hhere, le_rfl, by omega, hval, hhere, by simp⟩
    · have hrest : w + (left + 1) = w + 1 + left := by omega
      rw [hrest, Finset.sum_eq_sum_Ico_succ_bot (by omega)] at hlt
      obtain ⟨w', val', hfind, hle, hlt', hnonneg, hbelow, hsum⟩ :=
        ih (w := w + 1) (val := val - subCount rem k w narrow m x) (by omega) (by omega)
      refine ⟨w', val', by rw [if_neg hhere, hfind], by omega, by omega, hnonneg, hbelow, ?_⟩
      rw [Finset.sum_eq_sum_Ico_succ_bot (by omega)]
      omega

/-- A value at or above the sum of the candidates' counts finds none (R119). -/
theorem findWidth_of_ge (hcount : ∀ c ∈ Finset.Ico w (w + left), 0 ≤ subCount rem k c narrow m x)
    (hge : ∑ c ∈ Finset.Ico w (w + left), subCount rem k c narrow m x ≤ val) :
    findWidth rem k narrow m x left w val = .error .eRange := by
  induction left generalizing w val with
  | zero => rfl
  | succ left ih =>
    have hrest : w + (left + 1) = w + 1 + left := by omega
    rw [hrest] at hcount hge
    have htail : ∀ c ∈ Finset.Ico (w + 1) (w + 1 + left), 0 ≤ subCount rem k c narrow m x := fun c hc =>
      hcount c (Finset.Ico_subset_Ico_left (Nat.le_succ w) hc)
    have htail_sum := Finset.sum_nonneg htail
    rw [Finset.sum_eq_sum_Ico_succ_bot (by omega)] at hge
    rw [findWidth, if_neg (by omega)]
    exact ih htail (by omega)

/-- The counts below a candidate, and a value in its own count, lead to the candidate (R117, R121). -/
theorem findWidth_of_mem {w' : Nat} {val' : Int} (hle : w ≤ w') (hlt : w' < w + left)
    (hcount : ∀ c ∈ Finset.Ico w w', 0 ≤ subCount rem k c narrow m x) (hnonneg : 0 ≤ val')
    (hbelow : val' < subCount rem k w' narrow m x) :
    findWidth rem k narrow m x left w (∑ c ∈ Finset.Ico w w', subCount rem k c narrow m x + val') =
      .ok (w', val') := by
  induction left generalizing w with
  | zero => omega
  | succ left ih =>
    rw [findWidth]
    rcases hle.eq_or_lt with rfl | hnext
    · simp [hbelow]
    · have htail : ∀ c ∈ Finset.Ico (w + 1) w', 0 ≤ subCount rem k c narrow m x := fun c hc =>
        hcount c (Finset.Ico_subset_Ico_left (Nat.le_succ w) hc)
      have htail_sum := Finset.sum_nonneg htail
      rw [Finset.sum_eq_sum_Ico_succ_bot hnext, if_neg (by omega), ← ih hnext (by omega) htail]
      congr 1
      ring

end Search

/-- What the elements not yet fixed must be (R115): `k` of them with sum `rem`, each in 1 to `m`, one of them 1 if a
narrow one is asked for and no earlier one is. -/
def Finishes (m : Nat) (x : Bool) (k rem : Nat) (narrow : Bool) (out : List Nat) : Prop :=
  out.length = k ∧ out.sum = rem ∧ (∀ v ∈ out, 1 ≤ v ∧ v ≤ m) ∧ (x = true → narrow = false → 1 ∈ out)

/-- A whole vector: the set that WIDTHS enumerates (R115). -/
theorem finishes_false_iff (m : Nat) (x : Bool) (k n : Nat) (out : List Nat) :
    Finishes m x k n false out ↔ inV n k m x out := by
  simp [Finishes]

/-- An element and the ones after it (R115). -/
theorem finishes_cons_iff (m : Nat) (x : Bool) (k rem : Nat) (narrow : Bool) (a : Nat) (rest : List Nat) :
    Finishes m x (k + 1) rem narrow (a :: rest) ↔
      1 ≤ a ∧ a ≤ m ∧ a ≤ rem ∧ Finishes m x k (rem - a) (narrow || a == 1) rest := by
  simp only [Finishes, List.length_cons, List.sum_cons, List.mem_cons, Bool.or_eq_false_iff, beq_eq_false_iff_ne,
    forall_eq_or_imp]
  constructor
  · rintro ⟨hlen, hsum, ⟨⟨hge, hle⟩, hrest⟩, hnarrow⟩
    exact ⟨hge, hle, by omega, by omega, by omega, hrest, fun hx hn =>
      (hnarrow hx hn.1).resolve_left fun h => hn.2 h.symm⟩
  · rintro ⟨hge, hle, hroom, hlen, hsum, hrest, hnarrow⟩
    refine ⟨by omega, by omega, ⟨⟨hge, hle⟩, hrest⟩, fun hx hn => ?_⟩
    by_cases ha : a = 1
    · exact .inl ha.symm
    · exact .inr (hnarrow hx ⟨hn, ha⟩)

/-- A vector has room for its elements: each is at least 1 (R115). -/
theorem Finishes.room {m : Nat} {x : Bool} {k rem : Nat} {narrow : Bool} {out : List Nat}
    (h : Finishes m x k rem narrow out) : k ≤ rem := by
  induction out generalizing k rem narrow with
  | nil =>
    obtain ⟨rfl, -⟩ := h
    exact Nat.zero_le rem
  | cons a rest ih =>
    obtain _ | k := k
    · omega
    · obtain ⟨hge, -, hroom, hrest⟩ := (finishes_cons_iff _ _ _ _ _ _ _).mp h
      have := ih hrest
      omega

/-- One element alone: what is left, where it may stand (R115). -/
theorem finishes_one_iff (m : Nat) (x : Bool) (rem : Nat) (narrow : Bool) (out : List Nat) :
    Finishes m x 1 rem narrow out ↔ out = [rem] ∧ 1 ≤ rem ∧ rem ≤ m ∧ (x = true → narrow = false → rem = 1) := by
  constructor
  · rintro ⟨hlen, hsum, hbounds, hnarrow⟩
    obtain ⟨a, rfl⟩ := List.length_eq_one_iff.mp hlen
    obtain rfl : a = rem := by simpa using hsum
    obtain ⟨hge, hle⟩ := hbounds a List.mem_cons_self
    exact ⟨rfl, hge, hle, fun hx hn => (List.mem_singleton.mp (hnarrow hx hn)).symm⟩
  · rintro ⟨rfl, hge, hle, hnarrow⟩
    exact ⟨rfl, by simp, by simp [hge, hle], fun hx hn => by simp [hnarrow hx hn]⟩

/-- The last element takes what is left: there is one way if that may stand there, else none (R120). -/
theorem finishCount_one (m : Nat) (x : Bool) (rem : Nat) (narrow : Bool) (hreg : InRegion m x 1 rem narrow) :
    finishCount m x 1 rem narrow = if rem ≤ m ∧ (x = true → narrow = false → rem = 1) then 1 else 0 := by
  obtain ⟨hroom, -, hfits⟩ := hreg
  have hbad : x = true ∧ narrow = false ∧ 2 * 1 ≤ rem ↔ ¬(x = true → narrow = false → rem = 1) := by
    have : 2 * 1 ≤ rem ↔ ¬rem = 1 := by omega
    simp only [this, Classical.not_imp]
  rw [finishCount, if_congr hbad rfl rfl]
  by_cases hover : m < rem
  · have hfine : x = true → narrow = false → rem = 1 := fun hx hn => by
      have := hfits hx hn
      omega
    rw [if_neg (not_not.mpr hfine), if_pos hover, if_neg fun h => by omega]
    simp
  · by_cases hfine : x = true → narrow = false → rem = 1
    · rw [if_neg (not_not.mpr hfine), if_neg hover, if_pos ⟨by omega, hfine⟩]
      simp
    · rw [if_pos hfine, if_neg hover, if_neg fun h => hfine h.2]
      simp

section Position

variable {m : Nat} {x : Bool} {k rem : Nat} {narrow : Bool}

/-- The counts of the candidates at a position sum to the count there (R122). -/
theorem sum_subCount (hreg : InRegion m x (k + 2) rem narrow) :
    ∑ c ∈ Finset.Ico 1 (1 + min (rem - (k + 1)) m), subCount rem (k + 2) c narrow m x =
      finishCount m x (k + 2) rem narrow := by
  have hroom := hreg.room
  rw [finishCount_succ m x (k + 1) rem narrow (by omega) hreg]
  refine Finset.sum_congr rfl fun c hc => ?_
  obtain ⟨hge, hlt⟩ := Finset.mem_Ico.mp hc
  exact subCount_eq_finishCount m x (k + 1) rem c narrow (by omega) (by omega)

/-- There are never fewer than no ways to finish (R122). -/
theorem finishCount_nonneg (hreg : InRegion m x (k + 1) rem narrow) : 0 ≤ finishCount m x (k + 1) rem narrow := by
  induction k generalizing rem narrow with
  | zero =>
    rw [finishCount_one m x rem narrow hreg]
    split_ifs <;> decide
  | succ k ih =>
    have hroom := hreg.room
    rw [finishCount_succ m x (k + 1) rem narrow (by omega) hreg]
    refine Finset.sum_nonneg fun c hc => ?_
    obtain ⟨hge, hlt⟩ := Finset.mem_Ico.mp hc
    exact ih (hreg.next hge (by omega))

/-- A candidate that leaves room has the count of the position after it, and that is not negative (R122 (1)). -/
theorem subCount_of_room (hreg : InRegion m x (k + 2) rem narrow) {w : Nat} (hw : 1 ≤ w) (hroom : w + (k + 1) ≤ rem) :
    subCount rem (k + 2) w narrow m x = finishCount m x (k + 1) (rem - w) (narrow || w == 1) ∧
      0 ≤ subCount rem (k + 2) w narrow m x := by
  have hcount := subCount_eq_finishCount m x (k + 1) rem w narrow (by omega) hroom
  exact ⟨hcount, hcount ▸ finishCount_nonneg (hreg.next hw hroom)⟩

/-- A first element and its rest, with the room it leaves (R115). -/
theorem Finishes.exists_cons {out : List Nat} (h : Finishes m x (k + 2) rem narrow out) :
    ∃ a rest, out = a :: rest ∧ 1 ≤ a ∧ a ≤ m ∧ a + (k + 1) ≤ rem ∧
      Finishes m x (k + 1) (rem - a) (narrow || a == 1) rest := by
  obtain ⟨a, rest, rfl⟩ := List.exists_cons_of_length_eq_add_one h.1
  obtain ⟨hge, hle, hroom, hrest⟩ := (finishes_cons_iff _ _ _ _ _ _ _).mp h
  have := hrest.room
  exact ⟨a, rest, rfl, hge, hle, by omega, hrest⟩

/-- The rank counts the candidates passed over at the first element, then the rest (R121). -/
theorem rankFrom_cons (m : Nat) (x : Bool) (rem : Nat) (narrow : Bool) (a : Nat) {rest : List Nat}
    (hlen : rest.length = k + 1) :
    rankFrom m x rem narrow (a :: rest) =
      ∑ c ∈ Finset.Ico 1 a, subCount rem (k + 2) c narrow m x + rankFrom m x (rem - a) (narrow || a == 1) rest := by
  obtain ⟨b, rest, rfl⟩ := List.exists_cons_of_length_eq_add_one hlen
  simp only [List.length_cons, Nat.add_right_cancel_iff] at hlen
  rw [rankFrom, hlen, countBelow_eq_sum]

/-- More candidates are passed over to reach a wider one (R117). -/
theorem sum_subCount_mono (hreg : InRegion m x (k + 2) rem narrow) {a b : Nat} (hab : a ≤ b)
    (hb : b ≤ 1 + min (rem - (k + 1)) m) :
    ∑ c ∈ Finset.Ico 1 a, subCount rem (k + 2) c narrow m x ≤
      ∑ c ∈ Finset.Ico 1 b, subCount rem (k + 2) c narrow m x := by
  have hroom := hreg.room
  refine Finset.sum_le_sum_of_subset_of_nonneg (Finset.Ico_subset_Ico_right hab) fun c hc _ => ?_
  obtain ⟨hge, hlt⟩ := Finset.mem_Ico.mp hc
  exact (subCount_of_room hreg hge (by omega)).2

/-- A vector's rank is in the domain (R122 (3)). -/
theorem rankFrom_bounds {out : List Nat} (hreg : InRegion m x (k + 1) rem narrow)
    (hout : Finishes m x (k + 1) rem narrow out) :
    0 ≤ rankFrom m x rem narrow out ∧ rankFrom m x rem narrow out < finishCount m x (k + 1) rem narrow := by
  induction k generalizing rem narrow out with
  | zero =>
    obtain ⟨rfl, -, hlast⟩ := (finishes_one_iff _ _ _ _ _).mp hout
    rw [finishCount_one m x rem narrow hreg, if_pos hlast]
    simp [rankFrom]
  | succ k ih =>
    obtain ⟨a, rest, rfl, hge, hle, hroom, hrest⟩ := hout.exists_cons
    obtain ⟨hcount, -⟩ := subCount_of_room hreg hge hroom
    obtain ⟨hnonneg, hlt⟩ := ih (hreg.next hge hroom) hrest
    have hpassed := sum_subCount_mono hreg hge (by omega)
    have htotal := sum_subCount_mono hreg (a := a + 1) (b := 1 + min (rem - (k + 1)) m) (by omega) le_rfl
    rw [Finset.Ico_self, Finset.sum_empty] at hpassed
    rw [Finset.sum_Ico_succ_top hge, sum_subCount hreg] at htotal
    rw [rankFrom_cons m x rem narrow a hrest.1]
    exact ⟨by omega, lt_of_lt_of_le (by omega) htotal⟩

/-- The rank of a vector leads the search to the vector (R122 (3)). -/
theorem placeWidths_rankFrom {out : List Nat} (hreg : InRegion m x (k + 1) rem narrow)
    (hout : Finishes m x (k + 1) rem narrow out) :
    placeWidths m x (k + 1) rem narrow (rankFrom m x rem narrow out) = .ok out := by
  induction k generalizing rem narrow out with
  | zero =>
    obtain ⟨rfl, -⟩ := (finishes_one_iff _ _ _ _ _).mp hout
    rfl
  | succ k ih =>
    obtain ⟨a, rest, rfl, hge, hle, hroom, hrest⟩ := hout.exists_cons
    have hnext := hreg.next hge hroom
    obtain ⟨hcount, -⟩ := subCount_of_room hreg hge hroom
    obtain ⟨hnonneg, hlt⟩ := rankFrom_bounds hnext hrest
    have hcandidates : ∀ c ∈ Finset.Ico 1 a, 0 ≤ subCount rem (k + 2) c narrow m x := fun c hc => by
      obtain ⟨hcge, hclt⟩ := Finset.mem_Ico.mp hc
      exact (subCount_of_room hreg hcge (by omega)).2
    rw [placeWidths, rankFrom_cons m x rem narrow a hrest.1,
      findWidth_of_mem hge (by omega) hcandidates hnonneg (hcount ▸ hlt)]
    simp only [ih hnext hrest]

/-- A smaller rank is that of a vector that comes first in the order of R13 (R115). -/
theorem lex_of_rankFrom_lt {out out' : List Nat} (hreg : InRegion m x (k + 1) rem narrow)
    (hout : Finishes m x (k + 1) rem narrow out) (hout' : Finishes m x (k + 1) rem narrow out')
    (hlt : rankFrom m x rem narrow out < rankFrom m x rem narrow out') : List.Lex (· < ·) out out' := by
  induction k generalizing rem narrow out out' with
  | zero =>
    obtain ⟨rfl, -⟩ := (finishes_one_iff _ _ _ _ _).mp hout
    obtain ⟨rfl, -⟩ := (finishes_one_iff _ _ _ _ _).mp hout'
    exact absurd hlt (lt_irrefl _)
  | succ k ih =>
    obtain ⟨a, rest, rfl, hge, hle, hroom, hrest⟩ := hout.exists_cons
    obtain ⟨a', rest', rfl, hge', hle', hroom', hrest'⟩ := hout'.exists_cons
    rw [rankFrom_cons m x rem narrow a hrest.1, rankFrom_cons m x rem narrow a' hrest'.1] at hlt
    rcases lt_trichotomy a a' with hless | rfl | hmore
    · exact .rel hless
    · exact .cons (ih (hreg.next hge hroom) hrest hrest' (by omega))
    · obtain ⟨hcount', -⟩ := subCount_of_room hreg hge' hroom'
      obtain ⟨hnonneg, -⟩ := rankFrom_bounds (hreg.next hge hroom) hrest
      obtain ⟨-, hbelow'⟩ := rankFrom_bounds (hreg.next hge' hroom') hrest'
      have hpassed := sum_subCount_mono hreg (a := a' + 1) (b := a) hmore (by omega)
      rw [Finset.sum_Ico_succ_top hge'] at hpassed
      omega

/-- Below the count the search finds the vector of that rank (R122 (2)). -/
theorem placeWidths_of_lt {val : Int} (hreg : InRegion m x (k + 1) rem narrow) (hval : 0 ≤ val)
    (hlt : val < finishCount m x (k + 1) rem narrow) :
    ∃ out, placeWidths m x (k + 1) rem narrow val = .ok out ∧ Finishes m x (k + 1) rem narrow out ∧
      rankFrom m x rem narrow out = val := by
  induction k generalizing rem narrow val with
  | zero =>
    rw [finishCount_one m x rem narrow hreg] at hlt
    split_ifs at hlt with hlast
    · exact ⟨[rem], rfl, (finishes_one_iff _ _ _ _ _).mpr ⟨rfl, hreg.room, hlast⟩,
        by rw [rankFrom]; omega⟩
    · omega
  | succ k ih =>
    rw [← sum_subCount hreg] at hlt
    obtain ⟨w, val', hfind, hge, hlt', hnonneg, hbelow, hsum⟩ := findWidth_of_lt hval hlt
    have hroom := hreg.room
    obtain ⟨hcount, -⟩ := subCount_of_room hreg hge (by omega)
    obtain ⟨rest, hplace, hrest, hrank⟩ := ih (hreg.next hge (by omega)) hnonneg (hcount ▸ hbelow)
    refine ⟨w :: rest, ?_, (finishes_cons_iff _ _ _ _ _ _ _).mpr ⟨hge, by omega, by omega, hrest⟩, ?_⟩
    · rw [placeWidths, hfind]
      simp only [hplace]
    · rw [rankFrom_cons m x rem narrow w hrest.1, hrank, hsum]

/-- At or above the count the search fails (R119, R122 (2)). -/
theorem placeWidths_of_ge {val : Int} (hreg : InRegion m x (k + 2) rem narrow)
    (hge : finishCount m x (k + 2) rem narrow ≤ val) : placeWidths m x (k + 2) rem narrow val = .error .eRange := by
  have hroom := hreg.room
  rw [← sum_subCount hreg] at hge
  rw [placeWidths, findWidth_of_ge (fun c hc => ?_) hge]
  obtain ⟨hge, hlt⟩ := Finset.mem_Ico.mp hc
  exact (subCount_of_room hreg hge (by omega)).2

end Position

end Sys2Proof.Machine
end

section
/-! SUPPORT. WIDTHS on accepted operands: the vector of rank `VAL`, or `E_RANGE` (40_combinatorics.md R116 to R122),
and `W` after it. -/

namespace Sys2Proof.Machine

/-- The checks of R116 passed: two to eight elements, a sum that six bits hold, and the region in which the search is
exact (R122). -/
theorem inRegion_of_accepted (s : State) (hacc : ¬s.widthsRejected) :
    2 ≤ s.elems.toNat ∧ s.elems.toNat ≤ 8 ∧ s.n.toNat ≤ 32 ∧
      InRegion s.maxw.toNat s.xnn s.elems.toNat s.n.toNat false := by
  simp only [not_or, not_and] at hacc
  obtain ⟨⟨hk, hk8⟩, ⟨hn, hn32⟩, -, hone, hfits⟩ := hacc
  refine ⟨by omega, by omega, by omega, by omega, by omega, fun hx _ => ?_⟩
  have := hfits hx
  omega

/-- The size of the domain for accepted operands (R122 (4)). -/
theorem domain_eq_finishCount (s : State) (hacc : ¬s.widthsRejected) :
    s.domain = finishCount s.maxw.toNat s.xnn s.elems.toNat s.n.toNat false := by
  obtain ⟨hk, -, -, hreg⟩ := inRegion_of_accepted s hacc
  exact domainSize_eq_finishCount _ _ _ _ hk hreg.room

/-- A vector of `V` passes the self-check (R115, R120). -/
theorem selfCheck_of_inV {n k m : Nat} {x : Bool} {out : List Nat} (h : inV n k m x out) :
    selfCheck n m x out = true := by
  obtain ⟨-, hsum, hbounds, hnarrow⟩ := h
  simp only [selfCheck, Bool.and_eq_true, beq_iff_eq, List.all_eq_true, decide_eq_true_eq, Bool.or_eq_true,
    Bool.not_eq_true', List.contains_iff_mem]
  exact ⟨⟨hsum, hbounds⟩, (Bool.eq_false_or_eq_true x).symm.imp id hnarrow⟩

/-- Past the checks and with the vector found, WIDTHS writes it (R120). -/
theorem widthsBody_of_placed (s : State) {out : List Nat} (hacc : ¬s.widthsRejected)
    (hplace : placeWidths s.maxw.toNat s.xnn s.elems.toNat s.n.toNat false s.val.toNat = .ok out)
    (hout : s.enumerates out) : widthsBody s = .ok (s.setWidths out) := by
  rw [widthsBody, if_neg (mt (widthsOperandsBad_iff s).mp hacc), hplace]
  exact if_pos (selfCheck_of_inV hout)

/-- Below the size of the domain WIDTHS writes the vector of rank `VAL` (R122 (2)). -/
theorem widthsBody_of_lt (s : State) (hacc : ¬s.widthsRejected) (hlt : (s.val.toNat : Int) < s.domain) :
    ∃ out, s.enumerates out ∧ s.rankOf out = s.val.toNat ∧ widthsBody s = .ok (s.setWidths out) := by
  obtain ⟨hk, -, -, hreg⟩ := inRegion_of_accepted s hacc
  obtain ⟨k, hk⟩ := Nat.exists_eq_add_of_le' (le_of_add_le_right hk : 1 ≤ s.elems.toNat)
  rw [domain_eq_finishCount s hacc] at hlt
  rw [hk] at hreg hlt
  obtain ⟨out, hplace, hout, hrank⟩ := placeWidths_of_lt hreg (Int.natCast_nonneg _) hlt
  rw [← hk, finishes_false_iff] at hout
  rw [← hk] at hplace
  exact ⟨out, hout, hrank, widthsBody_of_placed s hacc hplace hout⟩

/-- At or above the size of the domain WIDTHS ends with `E_RANGE` (R119, R122 (2)). -/
theorem widthsBody_of_ge (s : State) (hacc : ¬s.widthsRejected) (hge : s.domain ≤ (s.val.toNat : Int)) :
    widthsBody s = .error .eRange := by
  obtain ⟨hk, -, -, hreg⟩ := inRegion_of_accepted s hacc
  obtain ⟨k, hk⟩ := Nat.exists_eq_add_of_le' hk
  rw [domain_eq_finishCount s hacc] at hge
  rw [hk] at hreg hge
  rw [widthsBody, if_neg (mt (widthsOperandsBad_iff s).mp hacc), hk, placeWidths_of_ge hreg hge]

/-- A vector of `V` has its rank in the domain (R122 (3)). -/
theorem rankOf_bounds (s : State) {out : List Nat} (hacc : ¬s.widthsRejected) (hout : s.enumerates out) :
    0 ≤ s.rankOf out ∧ s.rankOf out < s.domain := by
  obtain ⟨hk, -, -, hreg⟩ := inRegion_of_accepted s hacc
  obtain ⟨k, hk⟩ := Nat.exists_eq_add_of_le' (le_of_add_le_right hk : 1 ≤ s.elems.toNat)
  rw [State.enumerates, ← finishes_false_iff] at hout
  rw [domain_eq_finishCount s hacc]
  rw [hk] at hreg hout ⊢
  exact rankFrom_bounds hreg hout

/-- WIDTHS on the rank of a vector of `V` writes that vector (R122 (3)). -/
theorem widthsBody_of_rank (s : State) {out : List Nat} (hacc : ¬s.widthsRejected) (hout : s.enumerates out)
    (hval : (s.val.toNat : Int) = s.rankOf out) : widthsBody s = .ok (s.setWidths out) := by
  obtain ⟨hk, -, -, hreg⟩ := inRegion_of_accepted s hacc
  obtain ⟨k, hk⟩ := Nat.exists_eq_add_of_le' (le_of_add_le_right hk : 1 ≤ s.elems.toNat)
  refine widthsBody_of_placed s hacc ?_ hout
  rw [State.enumerates, ← finishes_false_iff] at hout
  rw [hval, State.rankOf, rank]
  rw [hk] at hreg hout ⊢
  exact placeWidths_rankFrom hreg hout

/-- Every entry of a vector of `V` fits an entry of `W`: it is at most the sum (10_state.md R33). -/
theorem getD_lt_of_enumerates (s : State) {out : List Nat} (hacc : ¬s.widthsRejected) (hout : s.enumerates out)
    (i : Nat) : out.getD i 0 < 64 := by
  obtain ⟨-, -, hn, -⟩ := inRegion_of_accepted s hacc
  obtain ⟨-, hsum, -⟩ := hout
  rcases Nat.lt_or_ge i out.length with hi | hi
  · rw [List.getD_eq_getElem _ _ hi]
    have := List.le_sum_of_mem (List.getElem_mem hi)
    omega
  · rw [List.getD_eq_default _ _ hi]
    decide

/-- The entries of `W` after WIDTHS, as numbers (R120). -/
theorem setWidths_getElem_toNat (s : State) {out : List Nat} (hacc : ¬s.widthsRejected) (hout : s.enumerates out)
    (i : Nat) (hi : i < 8) : ((s.setWidths out).w[i]).toNat = out.getD i 0 := by
  rw [setWidths_getElem s out i hi, BitVec.toNat_ofNat]
  exact Nat.mod_eq_of_lt (getD_lt_of_enumerates s hacc hout i)

/-- The leading `ELEMS` entries of `W` after WIDTHS are the vector (R120). -/
theorem widthList_setWidths (s : State) {out : List Nat} (hacc : ¬s.widthsRejected) (hout : s.enumerates out) :
    (s.setWidths out).successCompletion.widthList = out := by
  obtain ⟨-, hk8, -, -⟩ := inRegion_of_accepted s hacc
  have hlen : out.length = s.elems.toNat := hout.1
  have hlist : (s.setWidths out).successCompletion.widthList.length = out.length := by
    rw [State.widthList, List.length_map, List.length_take, Vector.length_toList, hlen]
    exact min_eq_left hk8
  refine List.ext_getElem hlist fun i hi hi' => ?_
  have hentry := setWidths_getElem_toNat s hacc hout i (by omega)
  rw [List.getD_eq_getElem _ _ hi'] at hentry
  simpa [State.widthList] using hentry

/-- The self-check of WIDTHS never fails: refused operands raise `E_OPERAND`, accepted ones at most `E_RANGE` (R116,
R119, R120). -/
theorem widthsBody_ne_eInvariant (s : State) : widthsBody s ≠ .error .eInvariant := by
  by_cases hrej : s.widthsRejected
  · rw [widthsBody_of_rejected s hrej]
    simp
  · rcases lt_or_ge (s.val.toNat : Int) s.domain with hlt | hge
    · obtain ⟨out, -, -, hbody⟩ := widthsBody_of_lt s hrej hlt
      simp [hbody]
    · rw [widthsBody_of_ge s hrej hge]
      simp

/-- No command raises `E_INVARIANT`: only WIDTHS could, and its vectors pass the self-check (R120, 60_exceptions.md
R170). -/
theorem commandBody_ne_eInvariant (i : Instr) (s : State) : commandBody i s ≠ .error .eInvariant := by
  intro h
  cases i with
  | widths => exact widthsBody_ne_eInvariant s h
  | _ => exact absurd (commandBody_error _ s _ h) (by decide)

/-- `FATAL` stays as it is, or a reset clears it: only an error completion with `E_INVARIANT` would set it, and no
command raises that error (60_exceptions.md R174). -/
theorem StepEffect.fatal_cases {s t : State} (h : StepEffect s t) :
    t.fatal = s.fatal ∨ (t.fatal = false ∧ s.resetNext) := by
  cases h
  case succeeds i u hpend hwrites =>
    rw [hwrites.frame]
    exact .inl rfl
  case raises i e hpend hbody =>
    have he : e ≠ .eInvariant := fun h => commandBody_ne_eInvariant i _ (h ▸ hbody)
    rw [errorCompletion_of_ne_eInvariant _ he]
    exact .inl rfl
  case illegal hpend =>
    rw [errorCompletion_eOpcode]
    exact .inl rfl
  case pin hnext => exact .inr ⟨rfl, hnext.resetNext⟩
  case soft hwr hbit => exact .inr ⟨rfl, hwr.resetNext hbit⟩
  case operand o v hwr hidle =>
    rw [setOperand_eq]
    exact .inl rfl
  all_goals exact .inl rfl

end Sys2Proof.Machine
end

section
/-! The statements about WIDTHS (40_combinatorics.md R115, R119 to R122), and the fatal state that follows from it
(60_exceptions.md R174). -/

namespace Sys2Proof.Machine

/-- Settles O44: `FATAL` stays as it is or a reset clears it (`StepEffect.fatal_cases`). -/
theorem fatalIsNeverSet : Obligations.FatalIsNeverSet := by
  unfold Obligations.FatalIsNeverSet
  intro s t hs hstep
  rcases (step_effect s t hstep).fatal_cases with hsame | ⟨hclear, -⟩
  · exact hsame.trans hs
  · exact hclear

/-- Settles O6: below the domain size the vector of rank `VAL` is written, at or above it the search fails. -/
theorem widthsWritesCheckedVector : Obligations.WidthsWritesCheckedVector := by
  unfold Obligations.WidthsWritesCheckedVector
  intro s hacc
  rw [exec_widths]
  rcases lt_or_ge (s.val.toNat : Int) s.domain with hlt | hge
  · obtain ⟨out, hout, -, hbody⟩ := widthsBody_of_lt s hacc hlt
    rw [hbody]
    exact .inl ⟨out, _, hout, rfl, setWidths_getElem_toNat s hacc hout, rfl⟩
  · rw [widthsBody_of_ge s hacc hge]
    exact .inr (complete_error_of_ne_eInvariant s (by decide))

/-- Settles O7: `widthsBody_of_lt` and `widthsBody_of_ge`; above the vector's end `W` holds zeros. -/
theorem widthsCompletesBelowDomainSize : Obligations.WidthsCompletesBelowDomainSize := by
  unfold Obligations.WidthsCompletesBelowDomainSize
  intro s hacc
  rw [exec_widths]
  refine ⟨fun hlt => ?_, fun hge => ?_⟩
  · obtain ⟨out, hout, hrank, hbody⟩ := widthsBody_of_lt s hacc hlt
    rw [hbody]
    refine ⟨_, rfl, rfl, ?_, ?_, fun i hi hend => ?_⟩
    · rwa [widthList_setWidths s hacc hout]
    · rwa [widthList_setWidths s hacc hout]
    · obtain ⟨hlen, -⟩ := hout
      exact (setWidths_getElem s out i hi).trans (by rw [List.getD_eq_default _ _ (hlen.trans_le hend)]; rfl)
  · rw [widthsBody_of_ge s hacc hge]
    exact complete_error_of_ne_eInvariant s (by decide)

/-- A WIDTHS that ends without an error found the vector of rank `VAL` (R121). -/
theorem exec_widths_success (s t : State) (hacc : ¬s.widthsRejected)
    (hexec : exec .widths s = .next t) (hterr : t.err = false) :
    s.enumerates t.widthList ∧ s.rankOf t.widthList = s.val.toNat := by
  obtain ⟨hbelow, habove⟩ := widthsCompletesBelowDomainSize s hacc
  rcases lt_or_ge (s.val.toNat : Int) s.domain with hlt | hge
  · obtain ⟨u, hu, -, hout, hrank, -⟩ := hbelow hlt
    cases hu.symm.trans hexec
    exact ⟨hout, hrank⟩
  · cases (habove hge).symm.trans hexec
    cases hterr

/-- Settles O8: one half of `exec_widths_success`. -/
theorem rankInvertsWidths : Obligations.RankInvertsWidths := by
  unfold Obligations.RankInvertsWidths
  intro s t hacc _ hexec hterr
  exact (exec_widths_success s t hacc hexec hterr).2

/-- Settles O9: `rankOf_bounds`, and the search led back by the rank (`widthsBody_of_rank`). -/
theorem widthsReachesEveryVector : Obligations.WidthsReachesEveryVector := by
  unfold Obligations.WidthsReachesEveryVector
  intro s out hacc hout
  obtain ⟨hnonneg, hlt⟩ := rankOf_bounds s hacc hout
  refine ⟨hnonneg, hlt, fun v hv => ?_⟩
  have hbody := widthsBody_of_rank { s with val := v } hacc hout hv
  rw [exec_widths, hbody]
  exact ⟨_, rfl, widthList_setWidths { s with val := v } hacc hout, rfl⟩

/-- Settles O10: the two vectors have the ranks `v` and `v'`, and ranks follow the order (`lex_of_rankFrom_lt`). -/
theorem widthsOrderIsLexicographic : Obligations.WidthsOrderIsLexicographic := by
  unfold Obligations.WidthsOrderIsLexicographic
  intro s t t' v v' hacc _ hlt hexec hterr hexec' hterr'
  obtain ⟨hout, hrank⟩ := exec_widths_success { s with val := v } t hacc hexec hterr
  obtain ⟨hout', hrank'⟩ := exec_widths_success { s with val := v' } t' hacc hexec' hterr'
  obtain ⟨hk, -, -, hreg⟩ := inRegion_of_accepted s hacc
  obtain ⟨k, hk⟩ := Nat.exists_eq_add_of_le' (le_of_add_le_right hk : 1 ≤ s.elems.toNat)
  have hless : s.rankOf t.widthList < s.rankOf t'.widthList := by
    calc s.rankOf t.widthList = (v.toNat : Int) := hrank
      _ < (v'.toNat : Int) := by omega
      _ = s.rankOf t'.widthList := hrank'.symm
  rw [State.enumerates, ← finishes_false_iff] at hout hout'
  rw [hk] at hreg hout hout'
  exact lex_of_rankFrom_lt hreg hout hout' hless

end Sys2Proof.Machine
end

section
/-! SUPPORT. What every effect leaves when no reset comes: the rest of the agenda, the pin, the lock and the locked
table (10_state.md R41, 70_reset_and_hazards.md R197). -/

namespace Sys2Proof.Machine

/-- A step that is no reset takes the first event from the agenda, and leaves the pin, the lock and a locked table. -/
theorem StepEffect.locked_frame {s t : State} (h : StepEffect s t) (hreset : ¬s.resetNext) :
    t.agenda = s.agenda.tail ∧ t.rstN = s.rstN ∧ (s.wtlock = true → t.wt = s.wt ∧ t.wtlock = true) := by
  cases h with
  | succeeds i u hpend hwrites =>
    rw [hwrites.frame]
    exact ⟨rfl, rfl, fun hlock => ⟨rfl, hlock⟩⟩
  | pin level hnext => exact absurd hnext.resetNext hreset
  | soft v hwr hbit => exact absurd (hwr.resetNext hbit) hreset
  | ctrl v hwr => exact ⟨rfl, rfl, fun hlock => ⟨rfl, by simp [hlock]⟩⟩
  | operand o v hwr hidle =>
    rw [setOperand_eq]
    exact ⟨rfl, rfl, fun hlock => ⟨rfl, hlock⟩⟩
  | weight r h v hwr hidle hunlocked => exact ⟨rfl, rfl, fun hlock => absurd hlock (by simp [hunlocked])⟩
  | _ => exact ⟨rfl, rfl, fun hlock => ⟨rfl, hlock⟩⟩

/-- With no reset on the agenda the next event is none (70 R190). -/
theorem not_resetNext_of_agenda (s : State) (h : ∀ ev ∈ s.agenda, eventIsReset ev = false) : ¬s.resetNext := by
  rintro ⟨ev, rest, hag, hev⟩
  have := h ev (hag ▸ List.mem_cons_self)
  simp [hev] at this

/-- A run of one step more is a step and a run from where it leads. -/
theorem run_succ_of_step {M : Host.Core} {k : Nat} {s t : M.State} (h : M.step s = .next t) :
    M.run (k + 1) s = M.run k t := by
  rw [Host.Core.run, h]

/-- A run of one step more that answers a next state made its first step. -/
theorem exists_step_of_run_succ {M : Host.Core} {k : Nat} {s t : M.State} (h : M.run (k + 1) s = .next t) :
    ∃ u, M.step s = .next u ∧ M.run k u = .next t := by
  rw [Host.Core.run] at h
  cases hstep : M.step s with
  | next u => exact ⟨u, rfl, by simpa [hstep] using h⟩
  | fault why => simp [hstep] at h
  | refused why => simp [hstep] at h

end Sys2Proof.Machine
end

section
/-! The statement about the locked table (10_state.md R41, 70_reset_and_hazards.md R197). -/

namespace Sys2Proof.Machine

/-- Settles O49: by induction on the length of the run. The invariant is the lock together with an agenda free of
resets; one step keeps both, and with them the table (`StepEffect.locked_frame`). -/
theorem lockedTableNeverChanges : Obligations.LockedTableNeverChanges := by
  unfold Obligations.LockedTableNeverChanges
  intro k
  induction k with
  | zero =>
    intro s t hlock _ hrun
    cases hrun
    exact ⟨rfl, hlock⟩
  | succ k ih =>
    intro s t hlock hfree hrun
    obtain ⟨u, hstep, hrest⟩ := exists_step_of_run_succ hrun
    obtain ⟨hag, -, hkept⟩ := (step_effect s u hstep).locked_frame (not_resetNext_of_agenda s hfree)
    obtain ⟨hwt, hulock⟩ := hkept hlock
    have hufree : ∀ ev ∈ u.agenda, eventIsReset ev = false := fun ev hev =>
      hfree ev (List.mem_of_mem_tail (hag ▸ hev))
    obtain ⟨htwt, htlock⟩ := ih u t hulock hufree hrest
    exact ⟨htwt.trans hwt, htlock⟩

end Sys2Proof.Machine
end


section
/-! SUPPORT. What a step does to a pending command (10_state.md R45, 60_exceptions.md R165), and that every step the
host can ask for answers (20_memory.md R82). -/

namespace Sys2Proof.Machine

/-- A pending command stays as it is, with its word and its operands, or the step completes it or is a reset, and
then the block is idle (R45, R165). -/
theorem StepEffect.pending_cases {s t : State} (h : StepEffect s t) (hbusy : s.busy = true) :
    t = { s with ie := t.ie, wtlock := t.wtlock, wrign := t.wrign, agenda := t.agenda, lastRead := t.lastRead } ∨
      (t.busy = false ∧ (s.completesNext ∨ s.resetNext)) := by
  have hnot : ¬s.busy = false := by simp [hbusy]
  cases h with
  | succeeds i u hpend hwrites => exact .inr ⟨rfl, .inl hpend.1⟩
  | raises i e hpend hbody => exact .inr ⟨rfl, .inl hpend.1⟩
  | illegal hpend => exact .inr ⟨rfl, .inl hpend⟩
  | pin level hnext => exact .inr ⟨rfl, .inr hnext.resetNext⟩
  | soft v hwr hbit => exact .inr ⟨rfl, .inr (hwr.resetNext hbit)⟩
  | acknowledges v hwr hbit hidle => exact absurd hidle hnot
  | accepts v hwr hfatal hidle => exact absurd hidle hnot
  | operand o v hwr hidle => exact absurd hidle hnot
  | width i v hwr hidle => exact absurd hidle hnot
  | weight r h v hwr hidle hlock => exact absurd hidle hnot
  | _ => exact .inl rfl

/-- Every completion, successful or not, clears `BUSY`, sets `DONE`, and leaves `IE` and `CMD` (60_exceptions.md R166,
R167). -/
theorem exec_completes (i : Instr) (s t : State) (h : exec i s = .next t) :
    t.busy = false ∧ t.done = true ∧ t.ie = s.ie ∧ t.cmd = s.cmd := by
  rcases exec_cases i s t h with ⟨w, acc, res0, res1, rfl⟩ | ⟨e, rfl⟩ <;> exact ⟨rfl, rfl, rfl, rfl⟩

/-- At the engine's turn the pending command completes, its word legal or not (R165, 30_encoding.md R93, R94). -/
theorem step_completes (s : State) (h : s.completesNext) :
    ∃ t, step s = .next t ∧ t.busy = false ∧ t.done = true ∧ t.ie = s.ie ∧ t.cmd = s.cmd := by
  obtain ⟨hbusy, hrst, rest, hnext⟩ := h
  obtain ⟨t, hturn⟩ := engineTurn_answers s.advance
  refine ⟨t, (step_engine_advance s rest hnext).trans hturn, ?_⟩
  rcases engineTurn_eq_next _ _ hturn with ⟨-, -, ⟨i, -, hexec⟩ | ⟨why, -, rfl⟩⟩ | ⟨hoff, -⟩
  · exact exec_completes i s.advance t hexec
  · exact ⟨rfl, rfl, rfl, rfl⟩
  · simp [hbusy, hrst] at hoff

/-- A step whose event the port can express answers a next state (R82). -/
theorem step_answers (s : State) (h : ∀ ev ∈ s.agenda, ev.wellFormed = true) : ∃ t, step s = .next t := by
  rcases hag : s.agenda with _ | ⟨ev, rest⟩
  · rw [step_nil s hag]
    exact engineTurn_answers s
  · have hwell : ev.wellFormed = true := h ev (hag ▸ List.mem_cons_self)
    rw [step_cons s ev rest hag]
    cases ev with
    | read a bytes => exact ⟨_, (hostRead_eq_next_iff _ _ a bytes).mpr ⟨hwell, rfl⟩⟩
    | write a bytes v => exact ⟨_, (hostWrite_eq_next_iff _ _ a bytes v).mpr ⟨hwell, rfl⟩⟩
    | complete => exact engineTurn_answers _
    | rstPin level => exact ⟨_, rfl⟩

end Sys2Proof.Machine
end

section
/-! The statements about pending commands and their completion (10_state.md R45, 60_exceptions.md R165 to R176). -/

namespace Sys2Proof.Machine

/-- Settles O47: the second case of `StepEffect.pending_cases` ends idle. -/
theorem pendingOperandsAreFrozen : Obligations.PendingOperandsAreFrozen := by
  unfold Obligations.PendingOperandsAreFrozen
  intro s t hbusy hstep htbusy
  rcases (step_effect s t hstep).pending_cases hbusy with hframe | ⟨hidle, -⟩
  · exact hframe
  · simp [htbusy] at hidle

/-- Settles O50: by induction on the length of the agenda. If the engine's turn is next the step completes; otherwise
it takes one event, keeps the command pending and `CMD`, and what is left is shorter. -/
theorem acceptedCommandCompletes : Obligations.AcceptedCommandCompletes := by
  unfold Obligations.AcceptedCommandCompletes
  intro s
  induction hlen : s.agenda.length generalizing s with
  | zero =>
    intro hbusy hrst _
    have hnext : s.completesNext := ⟨hbusy, hrst, [], .inl ⟨List.length_eq_zero_iff.mp hlen, rfl⟩⟩
    obtain ⟨t, hstep, htbusy, htdone, -, htcmd⟩ := step_completes s hnext
    exact ⟨1, t, by omega, run_succ_of_step (M := Sys2Proof.core) hstep, htbusy, htdone, htcmd⟩
  | succ n ih =>
    intro hbusy hrst hevents
    by_cases hnext : s.completesNext
    · obtain ⟨t, hstep, htbusy, htdone, -, htcmd⟩ := step_completes s hnext
      exact ⟨1, t, by omega, run_succ_of_step (M := Sys2Proof.core) hstep, htbusy, htdone, htcmd⟩
    · have hreset : ¬s.resetNext := not_resetNext_of_agenda s fun ev hev => (hevents ev hev).2
      obtain ⟨u, hstep⟩ := step_answers s fun ev hev => (hevents ev hev).1
      have heffect := step_effect s u hstep
      obtain ⟨huag, hurst, -⟩ := heffect.locked_frame hreset
      have hframe := (heffect.pending_cases hbusy).resolve_right fun h => h.2.elim hnext hreset
      have hubusy : u.busy = true := by rw [hframe]; exact hbusy
      have hucmd : u.cmd = s.cmd := by rw [hframe]
      have hulen : u.agenda.length = n := by rw [huag, List.length_tail, hlen, Nat.add_sub_cancel]
      obtain ⟨k, t, hk, hrun, htbusy, htdone, htcmd⟩ := ih u hulen hubusy (hurst.trans hrst) fun ev hev =>
        hevents ev (List.mem_of_mem_tail (huag ▸ hev))
      exact ⟨k + 1, t, by omega, (run_succ_of_step (M := Sys2Proof.core) hstep).trans hrun, htbusy, htdone,
        htcmd.trans hucmd⟩

/-- Settles O29: every completion sets `DONE` and leaves `IE` (`step_completes`, `exec_completes`), and `irq` is
both. -/
theorem completionRaisesInterrupt : Obligations.CompletionRaisesInterrupt := by
  unfold Obligations.CompletionRaisesInterrupt
  refine ⟨fun s rest hnext hbusy hrst => ?_, fun i s t hexec => ?_⟩
  · obtain ⟨t, hstep, -, hdone, hie, -⟩ := step_completes s ⟨hbusy, hrst, rest, hnext⟩
    exact ⟨t, hstep, hdone, by rw [State.irq, hdone, hie, Bool.and_true]⟩
  · obtain ⟨-, hdone, hie, -⟩ := exec_completes i s t hexec
    rw [State.irq, hdone, hie, Bool.and_true]

/-- Settles O23: the engine's turn on a legal word is the command's completion. -/
theorem stepRunsDecodedInstruction : Obligations.StepRunsDecodedInstruction := by
  unfold Obligations.StepRunsDecodedInstruction
  intro s rest i hnext hbusy hrst hdec _
  rw [step_engineNext s rest hnext]
  simp [engineTurn, completePending, hbusy, hrst, hdec]

/-- Settles O25: with no event left the step is the engine's turn, which has nothing to complete. -/
theorem idleBlockStays : Obligations.IdleBlockStays := by
  unfold Obligations.IdleBlockStays
  rintro s ⟨hag, hidle⟩
  rw [step_nil s hag]
  simp [engineTurn, hidle]

/-- Settles O27: an answer with `ERR` set is an error completion, whose code is one that the body raises
(`commandBody_error`). -/
theorem commandsRaiseOnlyTheirCodes : Obligations.CommandsRaiseOnlyTheirCodes := by
  unfold Obligations.CommandsRaiseOnlyTheirCodes
  intro i s t herr hexec hterr
  rw [exec_eq_complete] at hexec
  rcases (complete_eq_next_iff _ _ _).mp hexec with ⟨u, hu, rfl⟩ | ⟨e, he, rfl⟩
  · rw [(commandBody_ok i s u hu).frame] at hterr
    exact absurd hterr (by simp [herr])
  · exact commandBody_error i s e he

end Sys2Proof.Machine
end

section
/-! The statements about the fatal state and the resets (60_exceptions.md R174, 70_reset_and_hazards.md R190 to
R192). -/

namespace Sys2Proof.Machine

/-- Settles O45: only a reset clears `FATAL`, and only the acceptance of a command, which `FATAL` refuses, writes
`CMD` or sets `BUSY`. -/
theorem fatalLastsUntilReset : Obligations.FatalLastsUntilReset := by
  unfold Obligations.FatalLastsUntilReset
  intro s t hfatal hreset hstep
  cases step_effect s t hstep with
  | succeeds i u hpend hwrites =>
    rw [hwrites.frame]
    exact ⟨hfatal, rfl, fun _ => hpend.1.1⟩
  | raises i e hpend hbody => exact ⟨by simp [hfatal], rfl, fun _ => hpend.1.1⟩
  | illegal hpend => exact ⟨by simp [hfatal], rfl, fun _ => hpend.1⟩
  | pin level hnext => exact absurd hnext.resetNext hreset
  | soft v hwr hbit => exact absurd (hwr.resetNext hbit) hreset
  | accepts v hwr hclear hidle => simp [hfatal] at hclear
  | operand o v hwr hidle =>
    rw [setOperand_eq]
    exact ⟨hfatal, rfl, id⟩
  | _ => exact ⟨hfatal, rfl, id⟩

/-- A register file at its reset values stays so when only the model's own fields change (70 R191). -/
theorem registersAtReset_of_own_fields (s : State) (h : s.registersAtReset) (agenda : List Event) (d : Word) :
    ({ s with agenda := agenda, lastRead := d } : State).registersAtReset := by
  have hown := congrArg (fun u : State => { u with agenda := agenda, lastRead := d }) h
  exact hown

/-- Settles O46: a hard reset makes the state so, and under the held reset no command completes and no write reaches
the block, so that only the model's own fields change. -/
theorem heldResetIsKept : Obligations.HeldResetIsKept := by
  unfold Obligations.HeldResetIsKept
  intro s t hs hstep hlow
  cases step_effect s t hstep
  case pin | soft => rfl
  case idle | reads => exact registersAtReset_of_own_fields s (hs hlow) _ _
  case succeeds i u hpend hwrites =>
    obtain ⟨⟨-, hhigh, -⟩, -⟩ := hpend
    rw [hwrites.frame] at hlow
    exact absurd hhigh (Bool.eq_false_iff.mp hlow)
  case raises hpend hbody =>
    obtain ⟨⟨-, hhigh, -⟩, -⟩ := hpend
    exact absurd hhigh (Bool.eq_false_iff.mp hlow)
  case illegal hpend =>
    obtain ⟨-, hhigh, -⟩ := hpend
    exact absurd hhigh (Bool.eq_false_iff.mp hlow)
  case discards hnext =>
    obtain ⟨a, v, hwr, -⟩ := hnext
    exact absurd hwr.1 (Bool.eq_false_iff.mp hlow)
  case operand o v hwr hidle =>
    rw [setOperand_eq] at hlow
    exact absurd hwr.1 (Bool.eq_false_iff.mp hlow)
  case ctrl v hwr | status v hwr | acknowledges v hwr _ _ | accepts v hwr _ _ | width v hwr _ | weight v hwr _ _ =>
    exact absurd hwr.1 (Bool.eq_false_iff.mp hlow)

end Sys2Proof.Machine
end

section
/-! SUPPORT. What the window reads as after a reset, and accesses that are refused (10_state.md R47, 20_memory.md R82,
70_reset_and_hazards.md R191). -/

namespace Sys2Proof.Machine

/-- After a reset every register but `ID` and the weights reads 0 (R47, 70 R191, R192). -/
theorem readLoc_softReset (s : State) (l : Loc) (hid : l ≠ .id) (hwt : ∀ r h, l ≠ .wt r h) :
    s.softReset.readLoc l = 0 := by
  cases l with
  | id => exact absurd rfl hid
  | wt r h => exact absurd rfl (hwt r h)
  | operand o => cases o <;> rfl
  | ctrl => exact BitVec.eq_of_toNat_eq (ctrlWord_toNat s.softReset)
  | status => exact BitVec.eq_of_toNat_eq (statusWord_toNat s.softReset)
  | w i => simp [State.readLoc]
  | _ => rfl

/-- By offset: after a reset `ID` reads its constant, and every other word outside `WT` reads 0 (R47). -/
theorem readLoc_softReset_locate (s : State) (a : Nat) (halign : a % 4 = 0) (hout : ¬(0x100 ≤ a ∧ a < 0x200)) :
    s.softReset.readLoc (locate a) = if a = 0 then 0x43574501 else 0 := by
  split_ifs with ha
  · subst ha
    rfl
  · refine readLoc_softReset s _ (fun hid => ha ?_) fun r h hwt => hout ?_
    · have hoff := offset_locate a halign (by simp [hid])
      rw [hid] at hoff
      exact hoff.symm
    · have hoff := offset_locate a halign (by simp [hwt])
      rw [hwt] at hoff
      simp only [Loc.offset] at hoff
      omega

/-- An access that the port cannot express is refused under its name, read or write (R82). -/
theorem step_refused (s : State) (a bytes : Nat) (v : Word) (rest : List Event) (why : Refusal)
    (hag : s.agenda = .read a bytes :: rest ∨ s.agenda = .write a bytes v :: rest)
    (hwhy : accessRefusal a bytes = some why) : step s = .refused why := by
  rcases hag with hag | hag
  · rw [step_cons s _ rest hag, takeEvent, hostRead, hwhy]
  · rw [step_cons s _ rest hag, takeEvent, hostWrite, hwhy]

end Sys2Proof.Machine
end

section
/-! The statements about the address map, inexpressible accesses and the state after reset (10_state.md R47,
20_memory.md R71, R82, 70_reset_and_hazards.md R191). -/

namespace Sys2Proof.Machine

/-- Settles O30: by `locate_offset`, `offset_locate` and `locate_eq_reserved_iff`. -/
theorem addressMapIsOneToOne : Obligations.AddressMapIsOneToOne := by
  unfold Obligations.AddressMapIsOneToOne
  exact ⟨locate_offset, fun a halign _ => ⟨offset_locate a halign, locate_eq_reserved_iff a halign⟩⟩

/-- Settles O32: a clause for each name of `accessRefusal`, in its order. -/
theorem inexpressibleAccessIsRefused : Obligations.InexpressibleAccessIsRefused := by
  unfold Obligations.InexpressibleAccessIsRefused
  intro s a bytes v rest hag
  refine ⟨fun hbytes => ?_, fun hbytes halign => ?_, fun hbytes halign hwin => ?_⟩
  · exact step_refused s a bytes v rest _ hag (if_pos hbytes)
  · refine step_refused s a bytes v rest _ hag ?_
    rw [accessRefusal, if_neg (not_not.mpr hbytes), if_pos halign]
  · refine step_refused s a bytes v rest _ hag ?_
    rw [accessRefusal, if_neg (not_not.mpr hbytes), if_neg (not_not.mpr halign), if_pos hwin]

/-- Settles O39: the state after reset is its own soft reset (`readLoc_softReset_locate`). -/
theorem resetStateReadsAsTable : Obligations.ResetStateReadsAsTable := by
  unfold Obligations.ResetStateReadsAsTable
  exact ⟨fun a halign _ hout => readLoc_softReset_locate State.reset a halign hout, rfl⟩

/-- Settles O42: after reset the flags are clear (`statusConsistent_of_clear`) and the pin is high. -/
theorem resetStateIsConsistent : Obligations.ResetStateIsConsistent := by
  unfold Obligations.ResetStateIsConsistent
  exact ⟨statusConsistent_of_clear State.reset rfl rfl rfl, rfl, fun hlow => absurd hlow (by decide), rfl⟩

/-- Settles O41: the pin's event is a hard reset unless it stays high (`driveReset_cases`); while it is low the port
shows the soft reset of the state, and no write reaches the block. -/
theorem hardResetClearsRegisters : Obligations.HardResetClearsRegisters := by
  unfold Obligations.HardResetClearsRegisters
  refine ⟨fun s level rest hlow hag => ?_, fun s a rest hlow halign hwin hag => ?_,
    fun s a v rest hlow halign hwin hag => ?_⟩
  · rw [step_cons s _ rest hag, takeEvent]
    rcases driveReset_cases { s with agenda := rest } level with ⟨hlevel, hrst, -⟩ | ⟨-, heq⟩
    · simp [hlevel, show s.rstN = true from hrst] at hlow
    · rw [heq]
      exact ⟨_, rfl, rfl, rfl⟩
  · have hview : State.portView { s with agenda := rest } = State.softReset { s with agenda := rest } :=
      if_neg (by simp [hlow])
    rw [step_cons s _ rest hag]
    refine ⟨_, (hostRead_eq_next_iff _ _ a 4).mpr ⟨expressible_word a halign hwin, rfl⟩, rfl, fun hout => ?_⟩
    rw [hview]
    exact readLoc_softReset_locate _ a halign hout
  · rw [step_write s a v rest halign hwin hag, if_neg (by simp [hlow])]

/-- Settles O2: `decode_encode`, and the only word that decodes to a command (`decode_eq_ok_iff`). -/
theorem decodeEncodeRoundTrip : Obligations.DecodeEncodeRoundTrip := by
  unfold Obligations.DecodeEncodeRoundTrip
  exact ⟨fun i _ => decode_encode i, fun w i hdec => ((decode_eq_ok_iff w i).mp hdec).symm⟩

/-- Settles O3: three of the words are commands' words; the two others are rejected by the field that is wrong. -/
theorem sampleWordsDecode : Obligations.SampleWordsDecode := by
  unfold Obligations.SampleWordsDecode
  exact ⟨decode_encode .widths, decode_encode .ckfin, decode_encode .gtinval,
    (decode_eq_reservedOpcode_iff _).mpr (by decide), (decode_eq_upperBits_iff _).mpr (by decide)⟩

end Sys2Proof.Machine
end

section
/-! SUPPORT. A sequence of CKMACs as one sum (41_checksum.md R132, R139), and the residues of R135 as a one-to-one
map. -/

namespace Sys2Proof.Machine

/-- The row sum of a CKMAC depends on its operands and the table alone (R132). -/
theorem rowSum_withMac_of_wt_eq {s t : State} (h : s.wt = t.wt) (mac : MacInput) :
    (s.withMac mac).rowSum = (t.withMac mac).rowSum := by
  cases s
  cases t
  cases h
  rfl

/-- A CKMAC with legal `ELEMS` on a locked table whose sum fits adds its row sum (R132). -/
theorem exec_ckmac_withMac (s : State) (mac : MacInput) (hlock : s.wtlock = true)
    (helems : 1 ≤ mac.elems.toNat ∧ mac.elems.toNat ≤ 8) (hfits : s.acc.toNat + (s.withMac mac).rowSum < 2 ^ 32) :
    ∃ t, exec .ckmac (s.withMac mac) = .next t ∧ t.acc.toNat = s.acc.toNat + (s.withMac mac).rowSum ∧
      t = { s.withMac mac with acc := t.acc, busy := false, done := true } :=
  (ckmacAddsRowSumOrRefuses.2 (s.withMac mac)).1 hlock helems.1 helems.2 hfits

/-- A sequence of CKMACs whose total fits adds the total, and changes besides the operands of CKMAC only the flags of
its completions (R132, R139). -/
theorem macSequence_adds (macs : List MacInput) (s : State) (hlock : s.wtlock = true)
    (helems : ∀ mac ∈ macs, 1 ≤ mac.elems.toNat ∧ mac.elems.toNat ≤ 8)
    (hfits : s.acc.toNat + (macs.map fun mac => (s.withMac mac).rowSum).sum < 2 ^ 32) :
    ∃ t, macSequence s macs = .next t ∧
      t.acc.toNat = s.acc.toNat + (macs.map fun mac => (s.withMac mac).rowSum).sum ∧
      t = { s with w := t.w, row := t.row, elems := t.elems, acc := t.acc, busy := t.busy, done := t.done } := by
  induction macs generalizing s with
  | nil => exact ⟨s, rfl, by simp, rfl⟩
  | cons mac rest ih =>
    rw [List.map_cons, List.sum_cons] at hfits ⊢
    obtain ⟨u, hexec, huacc, hframe⟩ := exec_ckmac_withMac s mac hlock (helems mac List.mem_cons_self) (by omega)
    have huwt : u.wt = s.wt := by rw [hframe]; rfl
    have hulock : u.wtlock = true := by rw [hframe]; exact hlock
    have hsums : (rest.map fun mac => (u.withMac mac).rowSum) = rest.map fun mac => (s.withMac mac).rowSum :=
      List.map_congr_left fun mac _ => rowSum_withMac_of_wt_eq huwt mac
    obtain ⟨t, hrest, htacc, htframe⟩ := ih u hulock (fun mac hmac => helems mac (List.mem_cons_of_mem _ hmac))
      (by rw [hsums]; omega)
    refine ⟨t, by rw [macSequence, hexec]; exact hrest, by rw [htacc, hsums]; omega, ?_⟩
    rw [htframe, hframe]
    rfl

/-- After CKCLR a sequence of CKMACs leaves the total in `ACC` (R131, R139). -/
theorem macSequenceAfterClear_total (s : State) (macs : List MacInput) (hlock : s.wtlock = true)
    (helems : ∀ mac ∈ macs, 1 ≤ mac.elems.toNat ∧ mac.elems.toNat ≤ 8)
    (hfits : (macs.map fun mac => (s.withMac mac).rowSum).sum < 2 ^ 32) :
    ∃ t, macSequenceAfterClear s macs = .next t ∧
      t.acc.toNat = (macs.map fun mac => (s.withMac mac).rowSum).sum ∧ t.var = s.var ∧ t.res0 = s.res0 := by
  have hclear : exec .ckclr s = .next { s with acc := 0, busy := false, done := true } := ckclrClearsAccumulator.2 s
  have hsums : (macs.map fun mac => (State.withMac { s with acc := 0, busy := false, done := true } mac).rowSum) =
      macs.map fun mac => (s.withMac mac).rowSum := List.map_congr_left fun mac _ => rowSum_withMac_of_wt_eq rfl mac
  obtain ⟨t, hseq, hacc, hframe⟩ := macSequence_adds macs { s with acc := 0, busy := false, done := true } hlock helems
    (by rw [hsums]; simpa using hfits)
  refine ⟨t, by rw [macSequenceAfterClear, hclear]; exact hseq, by rw [hacc, hsums]; simp, ?_, ?_⟩
  · rw [hframe]
  · rw [hframe]

/-- CKRED answers, and its `RES0` depends on `ACC`, `VAR` and the old `RES0` alone (R133). -/
theorem exec_ckred_res0 (s t : State) (hacc : s.acc = t.acc) (hvar : s.var = t.var) (hres : s.res0 = t.res0) :
    ∃ u u', exec .ckred s = .next u ∧ exec .ckred t = .next u' ∧ u.res0 = u'.res0 := by
  rw [exec_ckred, exec_ckred]
  cases hm : modulus s.var with
  | none =>
    rw [ckredBody_of_no_modulus s hm, ckredBody_of_no_modulus t (hvar ▸ hm)]
    exact ⟨_, _, rfl, rfl, hres⟩
  | some m =>
    rw [ckredBody_of_modulus s hm, ckredBody_of_modulus t (hvar ▸ hm), hacc]
    exact ⟨_, _, rfl, rfl, rfl⟩

/-- The moved residue is an index pair other than (0, 8) and (8, 0) (R135). -/
theorem skipResidues_range {q : Nat} (hq : q < 79) :
    skipResidues q < 81 ∧ skipResidues q ≠ 8 ∧ skipResidues q ≠ 72 := by
  rw [skipResidues_eq]
  split_ifs <;> omega

/-- Different residues move to different places (R135). -/
theorem skipResidues_injective : Function.Injective skipResidues := by
  intro q q' h
  simp only [skipResidues_eq] at h
  split_ifs at h <;> omega

/-- CKFIN for `VAR = 0` answers the two finder indices of the moved residue (R135). -/
theorem exec_ckfin_of_var_zero (s t : State) (hvar : s.var = 0) (h : exec .ckfin s = .next t) :
    t.res0.toNat = skipResidues (s.acc.toNat % 79) / 9 ∧ t.res1.toNat = skipResidues (s.acc.toNat % 79) % 9 := by
  rw [exec_ckfin, ckfinBody_of_var_zero s hvar] at h
  cases h
  exact ⟨finOmni_res0_toNat s (Nat.mod_lt _ (by decide)), finOmni_res1_toNat s _⟩

end Sys2Proof.Machine
end

section
/-! The statements about sequences of CKMACs and the finder pairs (41_checksum.md R135, R139). -/

namespace Sys2Proof.Machine

/-- Settles O13: both orders leave the same total in `ACC` (`macSequenceAfterClear_total`), since a sum does not
depend on the order of its terms. -/
theorem checksumOrderDoesNotMatter : Obligations.ChecksumOrderDoesNotMatter := by
  unfold Obligations.ChecksumOrderDoesNotMatter
  intro s macs macs' hperm hlock helems hfits
  have hsum : (macs.map fun mac => (s.withMac mac).rowSum).sum = (macs'.map fun mac => (s.withMac mac).rowSum).sum :=
    (hperm.map _).sum_eq
  obtain ⟨t, hseq, hacc, hvar, hres⟩ := macSequenceAfterClear_total s macs hlock helems hfits
  obtain ⟨t', hseq', hacc', hvar', hres'⟩ := macSequenceAfterClear_total s macs' hlock
    (fun mac hmac => helems mac (hperm.mem_iff.mpr hmac)) (hsum ▸ hfits)
  have heq : t'.acc = t.acc := BitVec.eq_of_toNat_eq (by rw [hacc', hacc, hsum])
  exact ⟨t, t', hseq, hseq', hacc, heq,
    exec_ckred_res0 t t' heq.symm (hvar.trans hvar'.symm) (hres.trans hres'.symm)⟩

/-- Settles O16: the pair is quotient and remainder by 9 of the moved residue, which never is 8 or 72
(`skipResidues_range`) and tells the residues apart (`skipResidues_injective`). -/
theorem finderPairsAreDistinct : Obligations.FinderPairsAreDistinct := by
  unfold Obligations.FinderPairsAreDistinct
  intro s s' t t' hvar hvar' hexec hexec'
  obtain ⟨hleft, hright⟩ := exec_ckfin_of_var_zero s t hvar hexec
  obtain ⟨hleft', hright'⟩ := exec_ckfin_of_var_zero s' t' hvar' hexec'
  obtain ⟨hlt, hne8, hne72⟩ := skipResidues_range (Nat.mod_lt s.acc.toNat (by decide : 79 > 0))
  have hval (x : Word) (k : Nat) (hk : k < 2 ^ 32) : x = BitVec.ofNat 32 k ↔ x.toNat = k := by
    rw [← BitVec.toNat_inj, BitVec.toNat_ofNat, Nat.mod_eq_of_lt hk]
  refine ⟨by omega, by omega, ?_, ?_, fun hne heq => hne (skipResidues_injective ?_)⟩
  · rintro ⟨h0, h8⟩
    have := (hval _ 0 (by decide)).mp h0
    have := (hval _ 8 (by decide)).mp h8
    omega
  · rintro ⟨h8, h0⟩
    have := (hval _ 8 (by decide)).mp h8
    have := (hval _ 0 (by decide)).mp h0
    omega
  · obtain ⟨h0, h1⟩ := heq
    rw [h0] at hleft
    rw [h1] at hright
    omega

end Sys2Proof.Machine
end

section
/-! SUPPORT. The digit buffer as numbers, and the weighted sum of all fourteen digits that GTINVAL tests (10_state.md
R31, 42_gtin.md R151, R154, R155). -/

namespace Sys2Proof.Machine

/-- A digit is a nibble of the two registers read as one number (R31). -/
theorem digit_eq (s : State) (j : Nat) : s.digit j = (2 ^ 32 * s.dig1.toNat + s.dig0.toNat) / 16 ^ j % 16 := by
  rw [State.digit, BitVec.extractLsb'_toNat, append_toNat, Nat.shiftRight_eq_div_pow, Nat.pow_mul]

/-- The lower eight nibbles are those of `DIG0` (R31). -/
theorem digit_of_lt (s : State) {j : Nat} (hj : j < 8) : s.digit j = s.dig0.toNat / 16 ^ j % 16 := by
  obtain ⟨d, hd⟩ := Nat.exists_eq_add_of_lt hj
  have hpow : 2 ^ 32 * s.dig1.toNat = 16 ^ j * (16 * (16 ^ d * s.dig1.toNat)) := by
    have : (2 : Nat) ^ 32 = 16 ^ j * (16 * 16 ^ d) := by
      rw [← pow_succ', ← pow_add, ← add_assoc, ← hd]
      rfl
    rw [this]
    ring
  rw [digit_eq, hpow, Nat.mul_add_div (by positivity), Nat.mul_add_mod]

/-- The upper six nibbles are those of `DIG1` (R31). -/
theorem digit_of_ge (s : State) {j : Nat} (hj : 8 ≤ j) : s.digit j = s.dig1.toNat / 16 ^ (j - 8) % 16 := by
  have hpow : (16 : Nat) ^ j = 2 ^ 32 * 16 ^ (j - 8) := by
    calc (16 : Nat) ^ j = 16 ^ (8 + (j - 8)) := by rw [Nat.add_sub_cancel' hj]
      _ = 2 ^ 32 * 16 ^ (j - 8) := pow_add 16 8 (j - 8)
  rw [digit_eq, hpow, ← Nat.div_div_eq_div_mul, Nat.mul_add_div (by decide), Nat.div_eq_of_lt s.dig0.isLt,
    Nat.add_zero]

/-- The weight of a place in the sum of all fourteen digits: 1 for the check digit, then 3 and 1 in turn (R151,
R152). -/
def placeWeight (j : Nat) : Nat := if j % 2 = 0 then 1 else 3

/-- The weighted sum of all fourteen digits (R155). -/
def State.fullSum (s : State) : Nat := ∑ j ∈ Finset.range 14, s.digit j * placeWeight j

/-- The check digit and the payload sum together are the sum of all fourteen digits (R152, R154). -/
theorem digit_zero_add_payloadSum (s : State) : s.digit 0 + s.payloadSum = s.fullSum := by
  have hweight (j : Nat) : placeWeight (j + 1) = if j % 2 = 0 then 3 else 1 := by
    unfold placeWeight
    split_ifs <;> omega
  rw [State.fullSum, Finset.sum_range_succ', State.payloadSum,
    Fin.sum_univ_eq_sum_range (fun j => s.digit (j + 1) * if j % 2 = 0 then 3 else 1) 13, add_comm]
  have hzero : placeWeight 0 = 1 := rfl
  simp only [hweight, hzero, mul_one]

/-- GTINVAL on 14 digits answers (1,0) exactly where their weighted sum is a multiple of 10, and else (0,3) (R154). -/
theorem exec_gtinval_of_fullSum (s : State) (hlen : s.len.toNat = 14) (hd : s.digitsOk) :
    ∃ t, exec .gtinval s = .next t ∧ (s.fullSum % 10 = 0 → t.res0 = 1 ∧ t.res1 = 0) ∧
      (s.fullSum % 10 ≠ 0 → t.res0 = 0 ∧ t.res1 = 3) := by
  obtain ⟨-, -, hbad, hgood, -⟩ := gtinvalAnswersWithReason.2 s
  rw [digit_zero_add_payloadSum] at hbad hgood
  by_cases hsum : s.fullSum % 10 = 0
  · exact ⟨_, hgood hlen hd hsum, fun _ => ⟨rfl, rfl⟩, fun hne => absurd hsum hne⟩
  · exact ⟨_, hbad hlen hd hsum, fun heq => absurd heq hsum, fun _ => ⟨rfl, rfl⟩⟩

/-- An answer "valid" on 14 digits means that their weighted sum is a multiple of 10 (R154). -/
theorem fullSum_of_valid (s t : State) (hlen : s.len.toNat = 14) (hd : s.digitsOk) (hexec : exec .gtinval s = .next t)
    (hvalid : t.res0 = 1) : s.fullSum % 10 = 0 := by
  obtain ⟨u, hu, -, hbad⟩ := exec_gtinval_of_fullSum s hlen hd
  cases hu.symm.trans hexec
  by_contra hne
  have hzero := (hbad hne).1
  rw [hvalid] at hzero
  exact absurd hzero (by decide)

/-- The sum of all fourteen digits with one place set apart. -/
theorem fullSum_eq_add_erase (s : State) {k : Nat} (hk : k < 14) :
    s.fullSum = s.digit k * placeWeight k + ∑ j ∈ (Finset.range 14).erase k, s.digit j * placeWeight j :=
  (Finset.add_sum_erase _ (fun j => s.digit j * placeWeight j) (Finset.mem_range.mpr hk)).symm

/-- The sum of all fourteen digits with two neighbours set apart. -/
theorem fullSum_eq_add_erase_pair (s : State) {k : Nat} (hk : k + 1 < 14) :
    s.fullSum = s.digit k * placeWeight k + (s.digit (k + 1) * placeWeight (k + 1) +
      ∑ j ∈ ((Finset.range 14).erase k).erase (k + 1), s.digit j * placeWeight j) := by
  have hmem : k + 1 ∈ (Finset.range 14).erase k := Finset.mem_erase.mpr ⟨by omega, Finset.mem_range.mpr hk⟩
  rw [fullSum_eq_add_erase s (k := k) (by omega), ← Finset.add_sum_erase _ (fun j => s.digit j * placeWeight j) hmem]

end Sys2Proof.Machine
end

section
/-! The statements about the digit buffer and the check digit (10_state.md R31, 42_gtin.md R155). -/

namespace Sys2Proof.Machine

/-- Settles O17: `digit_of_lt` and `digit_of_ge`. -/
theorem digitBufferLayout : Obligations.DigitBufferLayout := by
  unfold Obligations.DigitBufferLayout
  exact fun s j => ⟨digit_of_lt s, fun hj _ => digit_of_ge s hj⟩

/-- Settles O20: the thirteen digits have the sum that GTINCD was given, and its check digit brings it to a multiple of
10. -/
theorem checkDigitValidates : Obligations.CheckDigitValidates := by
  unfold Obligations.CheckDigitValidates
  intro s t s' hlen hd hexec hlen' hcheck hdigits
  obtain ⟨u, hu, -, hle, hsum, -⟩ := (gtincdGivesCheckDigitOrRefuses.2 s).1 (by omega) (by omega) hd
  cases hu.symm.trans hexec
  have hd' : s'.digitsOk := by
    intro j hj
    obtain _ | j := j
    · omega
    · rw [hdigits j (by omega)]
      exact hd j (by omega)
  have hpayload : s'.payloadSum = s.paddedSum := by
    refine Finset.sum_congr rfl fun j _ => ?_
    have hused : j.val < s.len.toNat := j.isLt.trans_eq hlen.symm
    rw [hdigits j j.isLt, if_pos hused]
  obtain ⟨t', hexec', hgood, -⟩ := exec_gtinval_of_fullSum s' hlen' hd'
  refine ⟨t', hexec', hgood ?_⟩
  rw [← digit_zero_add_payloadSum, hcheck, hpayload, hsum]

/-- Settles O21: the weights 1 and 3 are prime to 10, so that the change of one digit changes the sum's last digit. -/
theorem singleDigitErrorIsDetected : Obligations.SingleDigitErrorIsDetected := by
  unfold Obligations.SingleDigitErrorIsDetected
  intro s s' t k hlen hlen' hd hd' hk hne hsame hexec hvalid
  have hsum := fullSum_of_valid s t hlen hd hexec hvalid
  obtain ⟨t', hexec', -, hbad⟩ := exec_gtinval_of_fullSum s' hlen' hd'
  refine ⟨t', hexec', hbad ?_⟩
  have hothers : ∑ j ∈ (Finset.range 14).erase k, s'.digit j * placeWeight j =
      ∑ j ∈ (Finset.range 14).erase k, s.digit j * placeWeight j := by
    refine Finset.sum_congr rfl fun j hj => ?_
    obtain ⟨hjk, hj14⟩ := Finset.mem_erase.mp hj
    rw [hsame j (Finset.mem_range.mp hj14) hjk]
  have hdk := hd k (by omega)
  have hdk' := hd' k (by omega)
  rw [fullSum_eq_add_erase s hk] at hsum
  rw [fullSum_eq_add_erase s' hk, hothers]
  unfold placeWeight at hsum ⊢
  split_ifs at hsum ⊢ <;> omega

/-- Settles O22: neighbours have the weights 1 and 3, so that exchanging digits that differ by 5 changes the sum by
10. -/
theorem exchangeByFiveIsNotDetected : Obligations.ExchangeByFiveIsNotDetected := by
  unfold Obligations.ExchangeByFiveIsNotDetected
  intro s s' t k hlen hlen' hd hk hfive hleft hright hsame hexec hvalid
  have hsum := fullSum_of_valid s t hlen hd hexec hvalid
  have hd' : s'.digitsOk := by
    intro j hj
    rcases eq_or_ne j k with rfl | hjk
    · rw [hleft]
      exact hd _ (by omega)
    · rcases eq_or_ne j (k + 1) with rfl | hjk'
      · rw [hright]
        exact hd _ (by omega)
      · rw [hsame j (by omega) hjk hjk']
        exact hd _ (by omega)
  obtain ⟨t', hexec', hgood, -⟩ := exec_gtinval_of_fullSum s' hlen' hd'
  refine ⟨t', hexec', hgood ?_⟩
  have hothers : ∑ j ∈ ((Finset.range 14).erase k).erase (k + 1), s'.digit j * placeWeight j =
      ∑ j ∈ ((Finset.range 14).erase k).erase (k + 1), s.digit j * placeWeight j := by
    refine Finset.sum_congr rfl fun j hj => ?_
    obtain ⟨hjk', hj⟩ := Finset.mem_erase.mp hj
    obtain ⟨hjk, hj14⟩ := Finset.mem_erase.mp hj
    rw [hsame j (Finset.mem_range.mp hj14) hjk hjk']
  have hweights : (placeWeight k = 1 ∧ placeWeight (k + 1) = 3) ∨ (placeWeight k = 3 ∧ placeWeight (k + 1) = 1) := by
    unfold placeWeight
    split_ifs <;> omega
  rw [fullSum_eq_add_erase_pair s hk] at hsum
  rw [fullSum_eq_add_erase_pair s' hk, hothers, hleft, hright]
  rcases hweights with ⟨hk1, hk3⟩ | ⟨hk3, hk1⟩
  · rw [hk1, hk3] at hsum ⊢
    omega
  · rw [hk1, hk3] at hsum ⊢
    omega

end Sys2Proof.Machine
end

section
/-! SUPPORT. What each command's body reads (30_encoding.md R92): two states that agree there get the same error or the
same writes. -/

namespace Sys2Proof.Machine

/-- The two outcomes of a body on two states are the same error, or successes with the same values written (R92). -/
def SameOutcome (i : Instr) (a b : Except ErrorCode State) : Prop :=
  (∃ e, a = .error e ∧ b = .error e) ∨ ∃ u v, a = .ok u ∧ b = .ok v ∧ agreeOnWrites u v i

/-- The same error on both sides. -/
theorem SameOutcome.error {i : Instr} (e : ErrorCode) : SameOutcome i (.error e) (.error e) := .inl ⟨e, rfl, rfl⟩

/-- Successes whose writes agree. -/
theorem SameOutcome.ok {i : Instr} {u v : State} (h : agreeOnWrites u v i) : SameOutcome i (.ok u) (.ok v) :=
  .inr ⟨u, v, rfl, rfl, h⟩

/-- The sum of CKMAC looks only at the leading `ELEMS` columns (41_checksum.md R132). -/
theorem weightedSum_congr {s t : State} (helems : s.elems = t.elems)
    (hcols : ∀ i < s.elems.toNat, s.width i = t.width i ∧ s.weight s.row.toNat i = t.weight t.row.toNat i) :
    s.weightedSum = t.weightedSum := by
  rw [State.weightedSum, State.weightedSum, ← helems, sumBelow_eq_sum, sumBelow_eq_sum]
  refine Finset.sum_congr rfl fun i hi => ?_
  obtain ⟨hwidth, hweight⟩ := hcols i (Finset.mem_range.mp hi)
  rw [hwidth, hweight]

section Digits

variable {s t : State} (hlen : s.len = t.len) (hdigits : ∀ j < s.len.toNat, s.digit j = t.digit j)
include hlen hdigits

/-- The test for a non-digit looks only at the digits in use (42_gtin.md R153). -/
theorem hasNonDigit_congr : s.hasNonDigit = t.hasNonDigit := by
  rw [Bool.eq_iff_iff, hasNonDigit_eq_true_iff, hasNonDigit_eq_true_iff, ← hlen]
  refine exists_congr fun j => and_congr_right fun hj => ?_
  rw [hdigits j hj]

/-- The padded payload is made of the digits in use (R153). -/
theorem paddedPayload_congr : s.paddedPayload = t.paddedPayload := by
  funext j
  rw [State.paddedPayload, State.paddedPayload, ← hlen]
  split_ifs with hj
  · exact hdigits j hj
  · rfl

/-- The reason of GTINVAL looks only at the digits in use (R154). -/
theorem gtinReason_congr : s.gtinReason = t.gtinReason := by
  have hcheck : s.len.toNat = 14 → (s.digit 0 ≠ checkDigit s.fullPayload ↔ t.digit 0 ≠ checkDigit t.fullPayload) := by
    intro h14
    have hsum : gtinSum s.fullPayload = gtinSum t.fullPayload := by
      rw [gtinSum_eq_sum, gtinSum_eq_sum]
      refine Finset.sum_congr rfl fun j _ => ?_
      have := j.isLt
      rw [State.fullPayload, State.fullPayload, hdigits (j.val + 1) (by omega)]
    rw [checkDigit, checkDigit, hsum, hdigits 0 (by omega)]
  rw [State.gtinReason, State.gtinReason, ← hlen, hasNonDigit_congr hlen hdigits]
  simp only [and_congr_right_iff.mpr hcheck]

end Digits

/-- The outcome of a body depends only on what its command reads (R92). -/
theorem commandBody_sameOutcome (i : Instr) (s t : State) (h : agreeOnReads s t i) :
    SameOutcome i (commandBody i s) (commandBody i t) := by
  cases i with
  | comb =>
    obtain ⟨hn, hr⟩ := h
    simp only [commandBody, combBody, ← hn, ← hr]
    split_ifs
    · exact .error _
    · exact .error _
    · exact .ok ⟨rfl, rfl⟩
  | widths =>
    obtain ⟨hval, hn, helems, hmaxw, hxnn⟩ := h
    simp only [commandBody, widthsBody, ← hval, ← hn, ← helems, ← hmaxw, ← hxnn]
    split_ifs
    · exact .error _
    · cases placeWidths s.maxw.toNat s.xnn s.elems.toNat s.n.toNat false s.val.toNat with
      | error e => exact .error e
      | ok out =>
        dsimp only
        split_ifs
        · exact .ok rfl
        · exact .error _
  | ckclr => exact .ok rfl
  | ckmac =>
    obtain ⟨helems, hrow, hacc, hlock, hcols⟩ := h
    have hsum := weightedSum_congr helems fun i hi => ⟨(hcols i hi).1, hrow ▸ (hcols i hi).2⟩
    simp only [commandBody, ckmacBody, ← helems, ← hacc, ← hlock, ← hsum]
    split_ifs
    · exact .error _
    · exact .error _
    · exact .error _
    · exact .ok rfl
  | ckred =>
    obtain ⟨hacc, hvar⟩ := h
    simp only [commandBody, ckredBody, ← hacc, ← hvar]
    cases modulus s.var with
    | none => exact .error _
    | some m => exact .ok ⟨rfl, rfl⟩
  | ckfin =>
    obtain ⟨hacc, hvar, hsc⟩ := h
    rcases ckfinBody_cases s with ⟨h0, hb⟩ | ⟨h1, hb⟩ | ⟨h2, hlow, hb⟩ | ⟨h2, hge, hb⟩ | ⟨h3, hb⟩
    · rw [commandBody, commandBody, hb, ckfinBody_of_var_zero t (hvar ▸ h0), ← hacc]
      exact .ok ⟨rfl, rfl⟩
    · rw [commandBody, commandBody, hb, ckfinBody_of_var_one t (hvar ▸ h1), ← hacc]
      exact .ok ⟨rfl, rfl⟩
    · rw [commandBody, commandBody, hb, ckfinBody_of_low_sc t (hvar ▸ h2) (hsc h2 ▸ hlow)]
      exact .error _
    · rw [commandBody, commandBody, hb, ckfinBody_of_var_two t (hvar ▸ h2) (hsc h2 ▸ hge), ← hacc]
      exact .ok ⟨congrArg (fun sc : BitVec 8 => BitVec.ofNat 32 (211 * (sc.toNat - 3) + s.acc.toNat % 211))
        (hsc h2), rfl⟩
    · rw [commandBody, commandBody, hb, ckfinBody_of_var_three t (hvar ▸ h3)]
      exact .error _
  | gtincd =>
    obtain ⟨hlen, hdigits⟩ := h
    simp only [commandBody, gtincdBody, ← hlen, ← hasNonDigit_congr hlen hdigits, ← paddedPayload_congr hlen hdigits]
    split_ifs
    · exact .error _
    · exact .error _
    · exact .ok ⟨rfl, rfl⟩
  | gtinval =>
    obtain ⟨hlen, hdigits⟩ := h
    simp only [commandBody, gtinvalBody, ← gtinReason_congr hlen hdigits]
    exact .ok ⟨rfl, rfl⟩

/-- The completion's flags do not touch what a command writes. -/
theorem agreeOnWrites_successCompletion {i : Instr} {u v : State} (h : agreeOnWrites u v i) :
    agreeOnWrites u.successCompletion v.successCompletion i := by
  cases i <;> exact h

end Sys2Proof.Machine
end

section
/-! The statement about what a command reads (30_encoding.md R92, 70_reset_and_hazards.md R201). -/

namespace Sys2Proof.Machine

/-- Settles O28: the two bodies have the same outcome (`commandBody_sameOutcome`), and a success has the frame of its
command's writes. -/
theorem commandReadsOnlyItsOperands : Obligations.CommandReadsOnlyItsOperands := by
  unfold Obligations.CommandReadsOnlyItsOperands
  intro i s t s' t' hreads hexec hexec'
  rw [exec_eq_complete] at hexec hexec'
  rcases commandBody_sameOutcome i s t hreads with ⟨e, hs, ht⟩ | ⟨u, v, hs, ht, hwrites⟩
  · rw [hs] at hexec
    rw [ht] at hexec'
    cases hexec
    cases hexec'
    exact .inl ⟨e, rfl, rfl⟩
  · have hu := (commandBody_ok i s u hs).frame
    have hv := (commandBody_ok i t v ht).frame
    rw [hs] at hexec
    rw [ht] at hexec'
    cases hexec
    cases hexec'
    exact .inr ⟨congrArg State.successCompletion hu, congrArg State.successCompletion hv,
      agreeOnWrites_successCompletion hwrites⟩

end Sys2Proof.Machine
end

section
/-! SUPPORT. Who writes what (10_state.md R43): for each group of registers, the effects outside a reset that change
it. -/

namespace Sys2Proof.Machine

/-- An operand register takes no part in any effect but a write of it by the host while idle (R43, 20_memory.md R74).
-/
theorem StepEffect.operands_cases {s t : State} (h : StepEffect s t) (hreset : ¬s.resetNext) :
    t.withOperandsOf s = t ∨
      ∃ o v, s.hostWrites o.offset v ∧ s.busy = false ∧ t = s.advance.setOperand v o := by
  cases h
  case succeeds i u hpend hwrites =>
    rw [hwrites.frame]
    exact .inl rfl
  case pin hnext => exact absurd hnext.resetNext hreset
  case soft hwr hbit => exact absurd (hwr.resetNext hbit) hreset
  case operand o v hwr hidle => exact .inr ⟨o, v, hwr, hidle, rfl⟩
  all_goals exact .inl rfl

/-- With the operand registers put back to those of `s`, they read as in `s`. -/
theorem readOperand_withOperandsOf (s t : State) (o : OperandReg) :
    (t.withOperandsOf s).readOperand o = s.readOperand o := by
  cases o <;> rfl

/-- `W`, `ACC` and the results change by a write of an entry of `W` while idle, or by the success of a command (R43).
-/
theorem StepEffect.data_cases {s t : State} (h : StepEffect s t) (hreset : ¬s.resetNext) :
    (t.w = s.w ∧ t.acc = s.acc ∧ t.res0 = s.res0 ∧ t.res1 = s.res1) ∨
      (∃ (i : Fin 8) (v : Word), s.hostWrites (0x060 + 4 * i.val) v ∧ s.busy = false ∧ t = s.advance.setWidth i v) ∨
      ∃ i u, s.completesAs i ∧ CommandWrites s.advance i u ∧ t = u.successCompletion := by
  cases h
  case succeeds i u hpend hwrites => exact .inr (.inr ⟨i, u, hpend, hwrites, rfl⟩)
  case pin hnext => exact absurd hnext.resetNext hreset
  case soft hwr hbit => exact absurd (hwr.resetNext hbit) hreset
  case operand o v hwr hidle =>
    rw [setOperand_eq]
    exact .inl ⟨rfl, rfl, rfl, rfl⟩
  case width i v hwr hidle => exact .inr (.inl ⟨i, v, hwr, hidle, rfl⟩)
  all_goals exact .inl ⟨rfl, rfl, rfl, rfl⟩

/-- The fields of `CTRL` change by a host write to it (R43, 20_memory.md R75). -/
theorem StepEffect.ctrl_cases {s t : State} (h : StepEffect s t) (hreset : ¬s.resetNext) :
    (t.ie = s.ie ∧ t.wtlock = s.wtlock) ∨
      ∃ v, s.hostWrites 0x004 v ∧ t.ie = v.getLsbD 0 ∧ t.wtlock = (s.wtlock || v.getLsbD 1) := by
  cases h
  case succeeds i u hpend hwrites =>
    rw [hwrites.frame]
    exact .inl ⟨rfl, rfl⟩
  case pin hnext => exact absurd hnext.resetNext hreset
  case soft hwr hbit => exact absurd (hwr.resetNext hbit) hreset
  case ctrl v hwr => exact .inr ⟨v, hwr, rfl, rfl⟩
  case operand o v hwr hidle =>
    rw [setOperand_eq]
    exact .inl ⟨rfl, rfl⟩
  all_goals exact .inl ⟨rfl, rfl⟩

/-- `BUSY`, `DONE`, `ERR`, `ECODE` and `CMD` change together: by a completion, by the acceptance of a command, or by
the acknowledgement (10_state.md R39). -/
theorem StepEffect.status_cases {s t : State} (h : StepEffect s t) (hreset : ¬s.resetNext) :
    (t.busy = s.busy ∧ t.done = s.done ∧ t.err = s.err ∧ t.ecode = s.ecode ∧ t.cmd = s.cmd) ∨
      (s.completesNext ∧ t.busy = false ∧ t.done = true ∧ t.cmd = s.cmd ∧
        (t.err = true ∨ (t.err = s.err ∧ t.ecode = s.ecode))) ∨
      (s.busy = false ∧ s.fatal = false ∧ s.hostWrites 0x00C t.cmd ∧ t.busy = true ∧ t.done = false ∧ t.err = false ∧
        t.ecode = 0) ∨
      (s.busy = false ∧ (∃ v, s.hostWrites 0x008 v ∧ v.getLsbD 1 = true) ∧ t.busy = false ∧ t.done = false ∧
        t.err = false ∧ t.ecode = 0 ∧ t.cmd = s.cmd) := by
  cases h
  case succeeds i u hpend hwrites =>
    rw [hwrites.frame]
    exact .inr (.inl ⟨hpend.1, rfl, rfl, rfl, .inr ⟨rfl, rfl⟩⟩)
  case raises i e hpend hbody => exact .inr (.inl ⟨hpend.1, rfl, rfl, rfl, .inl rfl⟩)
  case illegal hpend => exact .inr (.inl ⟨hpend, rfl, rfl, rfl, .inl rfl⟩)
  case pin hnext => exact absurd hnext.resetNext hreset
  case soft hwr hbit => exact absurd (hwr.resetNext hbit) hreset
  case acknowledges v hwr hbit hidle => exact .inr (.inr (.inr ⟨hidle, ⟨v, hwr, hbit⟩, hidle, rfl, rfl, rfl, rfl⟩))
  case accepts v hwr hfatal hidle => exact .inr (.inr (.inl ⟨hidle, hfatal, hwr, rfl, rfl, rfl, rfl⟩))
  case operand o v hwr hidle =>
    rw [setOperand_eq]
    exact .inl ⟨rfl, rfl, rfl, rfl, rfl⟩
  all_goals exact .inl ⟨rfl, rfl, rfl, rfl, rfl⟩

/-- `WRIGN` is set by a discarded write and cleared by a host write to `STATUS` (R39). -/
theorem StepEffect.wrign_cases {s t : State} (h : StepEffect s t) (hreset : ¬s.resetNext) :
    t.wrign = s.wrign ∨ (s.discardsNext ∧ t.wrign = true) ∨
      ∃ v, s.hostWrites 0x008 v ∧ t.wrign = (s.wrign && !v.getLsbD 4) := by
  cases h
  case succeeds i u hpend hwrites =>
    rw [hwrites.frame]
    exact .inl rfl
  case pin hnext => exact absurd hnext.resetNext hreset
  case soft hwr hbit => exact absurd (hwr.resetNext hbit) hreset
  case acknowledges v hwr hbit hidle => exact .inr (.inr ⟨v, hwr, rfl⟩)
  case status v hwr => exact .inr (.inr ⟨v, hwr, rfl⟩)
  case discards hnext => exact .inr (.inl ⟨hnext, rfl⟩)
  case operand o v hwr hidle =>
    rw [setOperand_eq]
    exact .inl rfl
  all_goals exact .inl rfl

/-- `WT` changes by a host write to a word of it while idle and unlocked (R43, 20_memory.md R78). -/
theorem StepEffect.table_cases {s t : State} (h : StepEffect s t) (hreset : ¬s.resetNext) :
    t.wt = s.wt ∨
      ∃ (r : Fin 32) (half : Fin 2) (v : Word), s.hostWrites (0x100 + 8 * r.val + 4 * half.val) v ∧ s.busy = false ∧
        s.wtlock = false ∧ t.wt = (s.advance.setWeightWord r half v).wt := by
  cases h
  case succeeds i u hpend hwrites =>
    rw [hwrites.frame]
    exact .inl rfl
  case pin hnext => exact absurd hnext.resetNext hreset
  case soft hwr hbit => exact absurd (hwr.resetNext hbit) hreset
  case operand o v hwr hidle =>
    rw [setOperand_eq]
    exact .inl rfl
  case weight r half v hwr hidle hlock => exact .inr ⟨r, half, v, hwr, hidle, hlock, rfl⟩
  all_goals exact .inl rfl

end Sys2Proof.Machine
end

section
/-! SUPPORT. The rows of the table of R43, each from the effects that change its registers. -/

namespace Sys2Proof.Machine

section Rows

variable {s t : State} (h : StepEffect s t) (hreset : ¬s.resetNext)
include h hreset

/-- While busy no operand register changes (10_state.md R43). -/
theorem operands_kept_while_busy (hbusy : s.busy = true) : t.withOperandsOf s = t := by
  rcases h.operands_cases hreset with hkept | ⟨o, v, -, hidle, -⟩
  · exact hkept
  · simp [hbusy] at hidle

/-- An operand register changes by a host write to it while idle. -/
theorem operand_writer (o : OperandReg) (hne : t.readOperand o ≠ s.readOperand o) :
    s.busy = false ∧ ∃ v, s.hostWrites o.offset v := by
  rcases h.operands_cases hreset with hkept | ⟨o', v, hwr, hidle, rfl⟩
  · rw [← hkept, readOperand_withOperandsOf] at hne
    exact absurd rfl hne
  · by_cases ho : o = o'
    · exact ⟨hidle, v, ho ▸ hwr⟩
    · rw [readOperand_setOperand_of_ne _ v ho] at hne
      exact absurd (by cases o <;> rfl) hne

/-- An entry of `W` changes by a host write to it while idle, or by WIDTHS. -/
theorem width_writer (i : Nat) (hi : i < 8) (hne : t.w[i] ≠ s.w[i]) :
    (s.busy = false ∧ ∃ v, s.hostWrites (0x060 + 4 * i) v) ∨ s.completesAs .widths := by
  rcases h.data_cases hreset with ⟨hw, -⟩ | ⟨j, v, hwr, hidle, rfl⟩ | ⟨c, u, hpend, hwrites, rfl⟩
  · exact absurd (by rw [hw]) hne
  · rw [setWidth_getElem _ j v i hi] at hne
    by_cases hij : i = j.val
    · exact .inl ⟨hidle, v, hij ▸ hwr⟩
    · exact absurd (if_neg hij) hne
  · cases hwrites with
    | widths out => exact .inr hpend
    | _ => exact absurd rfl hne

/-- `ACC` changes by CKCLR or CKMAC. -/
theorem acc_writer (hne : t.acc ≠ s.acc) : s.completesAs .ckclr ∨ s.completesAs .ckmac := by
  rcases h.data_cases hreset with ⟨-, hacc, -⟩ | ⟨j, v, -, -, rfl⟩ | ⟨c, u, hpend, hwrites, rfl⟩
  · exact absurd hacc hne
  · exact absurd rfl hne
  · cases hwrites with
    | clears => exact .inl hpend
    | adds x => exact .inr hpend
    | _ => exact absurd rfl hne

/-- `RES0` and `RES1` change by the five commands that answer in them. -/
theorem results_writer (hne : t.res0 ≠ s.res0 ∨ t.res1 ≠ s.res1) :
    s.completesAs .comb ∨ s.completesAs .ckred ∨ s.completesAs .ckfin ∨ s.completesAs .gtincd ∨
      s.completesAs .gtinval := by
  rcases h.data_cases hreset with ⟨-, -, h0, h1⟩ | ⟨j, v, -, -, rfl⟩ | ⟨c, u, hpend, hwrites, rfl⟩
  · simp [h0, h1] at hne
  · simp at hne
  · cases hwrites with
    | results c x y hc =>
      rcases (writesResults_iff c).mp hc with rfl | rfl | rfl | rfl | rfl
      exacts [.inl hpend, .inr (.inl hpend), .inr (.inr (.inl hpend)), .inr (.inr (.inr (.inl hpend))),
        .inr (.inr (.inr (.inr hpend)))]
    | _ => simp at hne

/-- What writes `W`, `ACC`, `RES0` or `RES1` is no error completion (60_exceptions.md R167). -/
theorem data_written_without_error (hne : t.w ≠ s.w ∨ t.acc ≠ s.acc ∨ t.res0 ≠ s.res0 ∨ t.res1 ≠ s.res1) :
    t.err = s.err ∧ t.ecode = s.ecode := by
  rcases h.data_cases hreset with ⟨hw, hacc, h0, h1⟩ | ⟨j, v, -, -, rfl⟩ | ⟨c, u, -, hwrites, rfl⟩
  · simp [hw, hacc, h0, h1] at hne
  · exact ⟨rfl, rfl⟩
  · rw [hwrites.frame]
    exact ⟨rfl, rfl⟩

/-- `IE` takes bit 0 of a host write to `CTRL`. -/
theorem ie_writer (hne : t.ie ≠ s.ie) : ∃ v, s.hostWrites 0x004 v ∧ t.ie = v.getLsbD 0 := by
  rcases h.ctrl_cases hreset with ⟨hie, -⟩ | ⟨v, hwr, hie, -⟩
  · exact absurd hie hne
  · exact ⟨v, hwr, hie⟩

/-- `WTLOCK` is never cleared (R41). -/
theorem wtlock_kept (hlock : s.wtlock = true) : t.wtlock = true := ((h.locked_frame hreset).2.2 hlock).2

/-- `WTLOCK` is set by a host write to `CTRL` with bit 1. -/
theorem wtlock_setter (hclear : s.wtlock = false) (hset : t.wtlock = true) :
    ∃ v, s.hostWrites 0x004 v ∧ v.getLsbD 1 = true := by
  rcases h.ctrl_cases hreset with ⟨-, hlock⟩ | ⟨v, hwr, -, hlock⟩
  · simp [hclear, hset] at hlock
  · exact ⟨v, hwr, by simpa [hclear, hset] using hlock.symm⟩

/-- `BUSY` is set by the acceptance of a command. -/
theorem busy_setter (hidle : s.busy = false) (hset : t.busy = true) :
    s.fatal = false ∧ ∃ v, s.hostWrites 0x00C v ∧ t.cmd = v := by
  rcases h.status_cases hreset with ⟨hbusy, -⟩ | ⟨-, hbusy, -⟩ | ⟨-, hfatal, hwr, -⟩ | ⟨-, -, hbusy, -⟩
  · simp [hidle, hset] at hbusy
  · simp [hset] at hbusy
  · exact ⟨hfatal, t.cmd, hwr, rfl⟩
  · simp [hset] at hbusy

/-- `BUSY` is cleared by a completion. -/
theorem busy_clearer (hbusy : s.busy = true) (hclear : t.busy = false) : s.completesNext := by
  rcases h.status_cases hreset with ⟨hsame, -⟩ | ⟨hpend, -⟩ | ⟨hidle, -⟩ | ⟨hidle, -⟩
  · simp [hbusy, hclear] at hsame
  · exact hpend
  · simp [hbusy] at hidle
  · simp [hbusy] at hidle

/-- `DONE`, `ERR` and `ECODE` are set by a completion, and cleared by the acknowledgement or by the acceptance of a
command (R39). -/
theorem done_err_ecode_writer :
    (t.done ≠ s.done → (t.done = true ∧ s.completesNext) ∨ (t.done = false ∧ s.clearsDoneNext)) ∧
      (t.err ≠ s.err → (t.err = true ∧ s.completesNext) ∨ (t.err = false ∧ s.clearsDoneNext)) ∧
      (t.ecode ≠ s.ecode → (t.err = true ∧ s.completesNext) ∨ (t.ecode = 0 ∧ s.clearsDoneNext)) := by
  rcases h.status_cases hreset with ⟨-, hdone, herr, hcode, -⟩ | ⟨hpend, -, hdone, -, hend⟩ |
    ⟨hidle, hfatal, hwr, -, hdone, herr, hcode⟩ | ⟨hidle, ⟨v, hwr, hbit⟩, -, hdone, herr, hcode, -⟩
  · exact ⟨absurd hdone, absurd herr, absurd hcode⟩
  · refine ⟨fun _ => .inl ⟨hdone, hpend⟩, fun hne => ?_, fun hne => ?_⟩
    · exact .inl ⟨hend.resolve_right fun hsame => hne hsame.1, hpend⟩
    · exact .inl ⟨hend.resolve_right fun hsame => hne hsame.2, hpend⟩
  · have hclears : s.clearsDoneNext := ⟨hidle, .inr ⟨hfatal, _, hwr⟩⟩
    exact ⟨fun _ => .inr ⟨hdone, hclears⟩, fun _ => .inr ⟨herr, hclears⟩, fun _ => .inr ⟨hcode, hclears⟩⟩
  · have hclears : s.clearsDoneNext := ⟨hidle, .inl ⟨v, hwr, hbit⟩⟩
    exact ⟨fun _ => .inr ⟨hdone, hclears⟩, fun _ => .inr ⟨herr, hclears⟩, fun _ => .inr ⟨hcode, hclears⟩⟩

/-- `WRIGN` is set by a discarded write. -/
theorem wrign_setter (hclear : s.wrign = false) (hset : t.wrign = true) : s.discardsNext := by
  rcases h.wrign_cases hreset with hsame | ⟨hnext, -⟩ | ⟨v, -, hand⟩
  · simp [hclear, hset] at hsame
  · exact hnext
  · simp [hclear, hset] at hand

/-- `WRIGN` is cleared by a host write of 1 to bit 4 of `STATUS`. -/
theorem wrign_clearer (hset : s.wrign = true) (hclear : t.wrign = false) :
    ∃ v, s.hostWrites 0x008 v ∧ v.getLsbD 4 = true := by
  rcases h.wrign_cases hreset with hsame | ⟨-, htrue⟩ | ⟨v, hwr, hand⟩
  · simp [hset, hclear] at hsame
  · simp [hclear] at htrue
  · exact ⟨v, hwr, by simpa [hset, hclear] using hand⟩

/-- `CMD` changes by a host write while idle and not fatal (R44). -/
theorem cmd_writer (hne : t.cmd ≠ s.cmd) : s.busy = false ∧ s.fatal = false ∧ s.hostWrites 0x00C t.cmd := by
  rcases h.status_cases hreset with ⟨-, -, -, -, hcmd⟩ | ⟨-, -, -, hcmd, -⟩ | ⟨hidle, hfatal, hwr, -⟩ |
    ⟨-, -, -, -, -, -, hcmd⟩
  · exact absurd hcmd hne
  · exact absurd hcmd hne
  · exact ⟨hidle, hfatal, hwr⟩
  · exact absurd hcmd hne

/-- A weight changes by a host write to its word while idle and unlocked. -/
theorem weight_writer (r c : Nat) (hr : r < 32) (hc : c < 8) (hne : t.wt[r][c] ≠ s.wt[r][c]) :
    s.busy = false ∧ s.wtlock = false ∧ ∃ v, s.hostWrites (0x100 + 8 * r + 4 * (c / 4)) v := by
  rcases h.table_cases hreset with hwt | ⟨r', half, v, hwr, hidle, hlock, hwt⟩
  · simp only [hwt, ne_eq, not_true] at hne
  · have hentry : t.wt[r][c] = (s.advance.setWeightWord r' half v).wt[r][c] := by simp only [hwt]
    rw [hentry, setWeightWord_getElem _ r' half v r c hr hc] at hne
    by_cases hplace : r = r'.val ∧ c / 4 = half.val
    · obtain ⟨hrow, hhalf⟩ := hplace
      exact ⟨hidle, hlock, v, by rw [hrow, hhalf]; exact hwr⟩
    · exact absurd (if_neg hplace) hne

end Rows

/-- The acknowledgement and the acceptance of a command clear `DONE`, `ERR` and `ECODE` (R39, 20_memory.md R76, R77).
-/
theorem step_clearsDone {s t : State} (hnext : s.clearsDoneNext) (hstep : step s = .next t) :
    t.done = false ∧ t.err = false ∧ t.ecode = 0 := by
  obtain ⟨hidle, ⟨v, ⟨hrst, rest, hag⟩, hbit⟩ | ⟨hfatal, v, hrst, rest, hag⟩⟩ := hnext
  · obtain ⟨u, hu, hclear, -⟩ := statusWriteFollowsRule s v rest hrst hag
    cases hu.symm.trans hstep
    obtain ⟨hdone, herr, hcode, -⟩ := hclear hbit hidle
    exact ⟨hdone, herr, hcode⟩
  · cases ((cmdWriteFollowsRule s v rest hrst hag).2 hfatal hidle).symm.trans hstep
    exact ⟨rfl, rfl, rfl⟩

/-- A step that completes a command clears `BUSY` and sets `DONE` (60_exceptions.md R165). -/
theorem busy_and_done_of_completesNext {s t : State} (hnext : s.completesNext) (hstep : step s = .next t) :
    t.busy = false ∧ t.done = true := by
  obtain ⟨u, hu, hbusy, hdone, -⟩ := step_completes s hnext
  cases hu.symm.trans hstep
  exact ⟨hbusy, hdone⟩

end Sys2Proof.Machine
end

section
/-! The statement about who writes what (10_state.md R39, R43). -/

namespace Sys2Proof.Machine

/-- Settles O48: a lemma for each row of the table; `FATAL` never changes outside a reset
(`StepEffect.fatal_cases`). -/
theorem onlyTheirWritersChangeRegisters : Obligations.OnlyTheirWritersChangeRegisters := by
  unfold Obligations.OnlyTheirWritersChangeRegisters
  intro s t hreset hstep
  have h := step_effect s t hstep
  obtain ⟨hdone, herr, hcode⟩ := done_err_ecode_writer h hreset
  exact ⟨operands_kept_while_busy h hreset, operand_writer h hreset, width_writer h hreset, acc_writer h hreset,
    results_writer h hreset, data_written_without_error h hreset, ie_writer h hreset, wtlock_kept h hreset,
    wtlock_setter h hreset, busy_setter h hreset, busy_clearer h hreset,
    fun hnext => busy_and_done_of_completesNext hnext hstep, hdone, herr, hcode,
    fun hnext => step_clearsDone hnext hstep, fun hne => absurd (h.fatal_cases.resolve_right fun hr => hreset hr.2) hne,
    wrign_setter h hreset,
    wrign_clearer h hreset, cmd_writer h hreset, weight_writer h hreset, rfl⟩

end Sys2Proof.Machine
end
